-- ==== Sys2Proof/Word.lean ====
section
/-! DEFINITION. The word types of Gambit: the 13-bit byte, the 52-bit word, the 5-bit register number. -/

namespace Sys2Proof

/-- One addressable byte: 13 bits (`00_scope.md` R7). -/
abbrev Byte := BitVec 13

/-- A word, a register value, an address: 52 bits (`00_scope.md` R6, R12). -/
abbrev Word := BitVec 52

/-- A register number: a 5-bit field of the instruction (`10_state.md` R20). -/
abbrev RegNo := BitVec 5

end Sys2Proof
end

