-- ==== Sys2Proof/Config.lean ====
section
/-! DEFINITION. The configuration `cfg` of `00_scope.md` R8: every parameter the source leaves open, with
the default the spec chooses for it (`92_eei_decisions.md`). A state carries its configuration (log entry 2),
so a statement about every state is a statement about every configuration. -/

namespace Sys2Proof

/-- The eight flags of the status register (`10_state.md` R27). -/
inductive Flag where
  | c | z | i | d | u | v | n | b
deriving DecidableEq, Repr

/-- How a short field becomes 52 bits: `cfg.imm_ext` and `cfg.ldb_ext`. -/
inductive Extension where
  | sign | zero
deriving DecidableEq, Repr

/-- `cfg.jmp46_high`: bits 51..46 of the target of JMP abs46 and JSR abs46 are 0, or those of the current pc. -/
inductive JumpHigh where
  | zero | keep
deriving DecidableEq, Repr

/-- `cfg.branch_base`: the address a branch displacement is added to. -/
inductive BranchBase where
  | nextInstruction | branchItself
deriving DecidableEq, Repr

/-- `cfg.pfi`: the two readings of PFI (`43_flow_control.md` R187). -/
inductive PfiReading where
  | refuse | nop
deriving DecidableEq, Repr

/-- `cfg.srpos`: the bit of the SR image that each flag stands at (`10_state.md` R34). -/
structure FlagPositions where
  c : Fin 52
  z : Fin 52
  i : Fin 52
  d : Fin 52
  u : Fin 52
  v : Fin 52
  n : Fin 52
  b : Fin 52
deriving DecidableEq, Repr

/-- The image bit of one flag. -/
def FlagPositions.of (p : FlagPositions) : Flag → Fin 52
  | .c => p.c
  | .z => p.z
  | .i => p.i
  | .d => p.d
  | .u => p.u
  | .v => p.v
  | .n => p.n
  | .b => p.b

/-- `10_state.md` R34: `cfg.srpos` is injective. -/
abbrev FlagPositions.Injective (p : FlagPositions) : Prop :=
  [p.c, p.z, p.i, p.d, p.u, p.v, p.n, p.b].Nodup

/-- `cfg.masksel`: which flag each mask bit of REP and SEP selects (`45_status.md` R250). The default
reads the selection off `cfg.srpos`; a table names, for mask bit 0 upward, the flag selected (log entry 19). -/
inductive MaskSelection where
  | bySrPos
  | table (flags : List (Option Flag))
deriving DecidableEq, Repr

/-- A window of addresses that `cfg.memmap` says is not plain memory: `size` bytes from `base` on
(`20_memory.md` R52, R65). -/
structure Window where
  base : Nat
  size : Nat
deriving DecidableEq, Repr

/-- The parameters of `00_scope.md` R8, by the names there; `cfg.reset` is the argument of
`Machine.State.powerOn`. -/
structure Config where
  dataLittleEndian : Bool
  misalignedOk : Bool
  unifiedMemory : Bool
  immExt : Extension
  subCarryIsNotBorrow : Bool
  ldbExt : Extension
  shiftCountBits : Nat
  rotateThroughCarry : Bool
  jmp46High : JumpHigh
  branchBase : BranchBase
  srPos : FlagPositions
  maskSel : MaskSelection
  vecBrk : Word
  vecIrq : Word
  vecNmi : Word
  vecRst : Word
  rstPushes : Bool
  pfi : PfiReading
  memMap : List Window
  ifetchCoherent : Bool
  stWritesNz : Bool
  swapRolLsr : Bool
  stringFlagsFromCount : Bool
deriving DecidableEq, Repr

/-- `cfg.vec_irq` is OPEN (`60_exceptions.md` R321): at reset a free value, nothing is known of it (log entry 3). -/
opaque Config.openVecIrq : Word

/-- `cfg.vec_nmi` is OPEN (`60_exceptions.md` R321): at reset a free value, nothing is known of it (log entry 3). -/
opaque Config.openVecNmi : Word

/-- `cfg.vec_rst` is OPEN (`60_exceptions.md` R321): at reset a free value, nothing is known of it (log entry 3). -/
opaque Config.openVecRst : Word

/-- The default layout of the SR image (`10_state.md` R34). -/
def FlagPositions.default : FlagPositions :=
  { c := 0, z := 1, i := 2, d := 3, u := 4, v := 5, n := 6, b := 7 }

/-- The defaults of `00_scope.md` R8. -/
def Config.default : Config where
  dataLittleEndian := true
  misalignedOk := true
  unifiedMemory := true
  immExt := .sign
  subCarryIsNotBorrow := true
  ldbExt := .sign
  shiftCountBits := 6
  rotateThroughCarry := true
  jmp46High := .zero
  branchBase := .nextInstruction
  srPos := FlagPositions.default
  maskSel := .bySrPos
  vecBrk := 0x0FFFFFFFFFFFC#52
  vecIrq := Config.openVecIrq
  vecNmi := Config.openVecNmi
  vecRst := Config.openVecRst
  rstPushes := false
  pfi := .refuse
  memMap := []
  ifetchCoherent := false
  stWritesNz := false
  swapRolLsr := false
  stringFlagsFromCount := false

end Sys2Proof
end

