-- ==== Sys2Proof/Machine/Memory.lean ====
section
/-! DEFINITION. Memory as data: a list of (address, byte) pairs in one canonical form, addresses strictly
rising and no pair equal to what an unlisted address reads as. Bytes, words, byte order (`20_memory.md`
R50 to R57), and the set of addresses that the program has stored to (R70). -/

namespace Sys2Proof.Machine

/-- One listed byte. A byte of this machine has 13 bits, so this is not `Host.Cell` (log entry 1). -/
abbrev Cell := Nat × Byte

/-- The listed bytes of a space of 2^52 bytes (`20_memory.md` R50, R52). -/
abbrev Memory := List Cell

/-- What a byte that is not listed reads as (DESIGN CHOICE, unsafe: log entry 4). -/
def unlistedByte : Byte := 0#13

/-- The byte at an address (`20_memory.md` R52, `MemRead(a, 1)` of R53). -/
def byteAt : Memory → Nat → Byte
  | [], _ => unlistedByte
  | cell :: rest, a => if cell.1 = a then cell.2 else byteAt rest a

/-- The memory with nothing listed at an address. -/
def dropAt : Memory → Nat → Memory
  | [], _ => []
  | cell :: rest, a => if cell.1 = a then dropAt rest a else cell :: dropAt rest a

/-- The memory with one more pair, before the first pair of a higher address. -/
def insertAt : Memory → Nat → Byte → Memory
  | [], a, v => [(a, v)]
  | cell :: rest, a, v =>
    if a < cell.1 then (a, v) :: cell :: rest else cell :: insertAt rest a v

/-- The memory with one byte written (`20_memory.md` R54); writing what an unlisted byte reads as lists nothing. -/
def setByteAt (m : Memory) (a : Nat) (v : Byte) : Memory :=
  if v = unlistedByte then dropAt m a else insertAt (dropAt m a) a v

/-- The pairs stand at strictly rising addresses, all at least `low` and below 2^52, and none holds what an
unlisted byte reads as. -/
def Memory.wfFrom : Nat → Memory → Bool
  | _, [] => true
  | low, cell :: rest =>
    decide (low ≤ cell.1) && decide (cell.1 < 2 ^ 52) && (cell.2 != unlistedByte) && Memory.wfFrom (cell.1 + 1) rest

/-- The canonical form. -/
def Memory.wf (m : Memory) : Bool :=
  Memory.wfFrom 0 m

/-- Byte `k` of a word in memory, counted from the lowest address: the least significant first if `little`
(`20_memory.md` R53, R54; `cfg.data_little_endian`). -/
def wordByte (little : Bool) (v : Word) (k : Nat) : Byte :=
  if little then v.extractLsb' (13 * k) 13 else v.extractLsb' (39 - 13 * k) 13

/-- The word that four bytes make, `b0` from the lowest address (`20_memory.md` R53). -/
def joinWord (little : Bool) (b0 b1 b2 b3 : Byte) : Word :=
  if little then b3 ++ b2 ++ b1 ++ b0 else b0 ++ b1 ++ b2 ++ b3

/-- The word at an address, byte by byte modulo 2^52 (`20_memory.md` R53, R57, R64). -/
def wordAt (little : Bool) (m : Memory) (a : Word) : Word :=
  joinWord little (byteAt m a.toNat) (byteAt m (a + 1#52).toNat) (byteAt m (a + 2#52).toNat) (byteAt m (a + 3#52).toNat)

/-- The `n` bytes from an address upward, modulo 2^52 (`20_memory.md` R56, `10_state.md` R26). -/
def bytesFrom (m : Memory) (a : Word) : Nat → List Byte
  | 0 => []
  | n + 1 => byteAt m a.toNat :: bytesFrom m (a + 1#52) n

/-- A set of addresses, strictly rising. -/
abbrev AddressSet := List Nat

/-- The set with one more address. -/
def addAddress : AddressSet → Nat → AddressSet
  | [], a => [a]
  | x :: rest, a => if a < x then a :: x :: rest else if a = x then x :: rest else x :: addAddress rest a

/-- The addresses are strictly rising, at least `low` and below 2^52. -/
def AddressSet.wfFrom : Nat → AddressSet → Bool
  | _, [] => true
  | low, x :: rest => decide (low ≤ x) && decide (x < 2 ^ 52) && AddressSet.wfFrom (x + 1) rest

/-- The canonical form of a set of addresses. -/
def AddressSet.wf (w : AddressSet) : Bool :=
  AddressSet.wfFrom 0 w

end Sys2Proof.Machine
end

