-- ==== Sys2Proof/Machine/State.lean ====
section
/-! DEFINITION. The state of the machine as plain data, the reasons a step can stop, and the state after
reset (`10_state.md`, `70_reset_and_hazards.md` section 1). -/

namespace Sys2Proof.Machine

/-- The status register: eight one-bit flags and nothing else (`10_state.md` R27, R37). -/
structure StatusRegister where
  c : Bool
  z : Bool
  i : Bool
  d : Bool
  u : Bool
  v : Bool
  n : Bool
  b : Bool
deriving DecidableEq, Repr

/-- The run state (`10_state.md` R38). -/
inductive RunState where
  | running | waiting | stopped
deriving DecidableEq, Repr

/-- The three interrupt request inputs at one instruction boundary (`10_state.md` R39). -/
structure Requests where
  rst : Bool
  nmi : Bool
  irq : Bool
deriving DecidableEq, Repr

/-- No request asserted. -/
def Requests.quiet : Requests :=
  { rst := false, nmi := false, irq := false }

/-- The four trap kinds (`60_exceptions.md` R311). -/
inductive TrapKind where
  | rst | nmi | irq | brk
deriving DecidableEq, Repr

/-- The model's outcome "fault": no source says what the hardware does here (`60_exceptions.md` R312). -/
inductive Fault where
  /-- Raised by a fetch: the bytes at pc spell no instruction (`30_encoding.md` R98). Safe: the run stops. -/
  | illegalOpcode
  /-- Raised by PFI under `cfg.pfi` = refuse (`43_flow_control.md` R187). Safe: the run stops. -/
  | noMeaning
  /-- Raised by a fetch from a byte the program has stored to since reset, under `cfg.ifetch_coherent` =
  false (`20_memory.md` R70). Safe: the run stops. -/
  | fetchFromWritten
deriving DecidableEq, Repr

/-- The model gives the access, or the instruction, no meaning. -/
inductive Refusal where
  /-- Raised by an arm of `exec` for an instruction that has no meaning in this model; no arm is left. Safe. -/
  | notModelled (mnemonic : String)
  /-- Raised by a word access at an address that is no multiple of 4, under `cfg.misaligned_ok` = false
  only (`20_memory.md` R57). Safe: the run stops. -/
  | misalignedWord
  /-- Raised by an access to a byte in a window that `cfg.memmap` says is not plain memory; no source gives
  such a byte a behaviour (`20_memory.md` R65). Safe: the run stops. -/
  | notPlainMemory
deriving DecidableEq, Repr

/-- The whole state (`10_state.md`, opening). `cfg`, `written` and `inputs` are the model's own fields
(log entries 2, 28 and 7). -/
structure State where
  /-- The configuration, which no step changes (`00_scope.md` R8). -/
  cfg : Config
  /-- The general registers (`10_state.md` R20); slot 0 is never read, since R0 is zero (R21, log entry 34). -/
  regs : Vector Word 32
  /-- The program counter (`10_state.md` R24). -/
  pc : Word
  /-- The status register (`10_state.md` R27). -/
  sr : StatusRegister
  /-- The run state (`10_state.md` R38). -/
  run : RunState
  /-- The memory (`20_memory.md` R52): data and code if the memory is unified, else data (R51). -/
  mem : Memory
  /-- The code memory of `cfg.unified_memory` = false (`20_memory.md` R51); unused otherwise. -/
  code : Memory
  /-- The addresses the program has stored to since reset (`20_memory.md` R70, log entries 28 and 43). -/
  written : AddressSet
  /-- The requests the environment presents at the boundaries to come, the next one first; past the end
  none is asserted (`10_state.md` R39, `60_exceptions.md` R330). -/
  inputs : List Requests
deriving DecidableEq, Repr

/-- What a power-on finds: the parameter `cfg.reset` of `00_scope.md` R8. Every part of it is
"unspecified" in the spec (`70_reset_and_hazards.md` R351), so a statement quantifies over it. -/
structure PowerOn where
  regs : Vector Word 32
  c : Bool
  z : Bool
  n : Bool
  v : Bool
  d : Bool
  u : Bool
  mem : Memory
  code : Memory
deriving DecidableEq, Repr

/-- The state after a power-on reset (`10_state.md` R43, `70_reset_and_hazards.md` R350, R351): i is 1, b is
0, pc is the word at `cfg.vec_rst`, the core runs, and the rest is what the power-on found. This read is made
whatever `cfg.misaligned_ok` and `cfg.memmap` say of that word (DESIGN CHOICE, log entry 42). -/
def State.powerOn (cfg : Config) (init : PowerOn) (inputs : List Requests) : State where
  cfg := cfg
  regs := init.regs
  pc := wordAt cfg.dataLittleEndian init.mem cfg.vecRst
  sr :=
    { c := init.c, z := init.z, i := true, d := init.d, u := init.u, v := init.v, n := init.n, b := false }
  run := .running
  mem := init.mem
  code := init.code
  written := []
  inputs := inputs

/-- The power-on contents the model names where the spec gives none: registers and flags 0, no memory
loaded (DESIGN CHOICE, unsafe: log entries 4, 5 and 6). -/
def PowerOn.blank : PowerOn where
  regs := Vector.replicate 32 0
  c := false
  z := false
  n := false
  v := false
  d := false
  u := false
  mem := []
  code := []

/-- The machine right after reset, with the spec's default configuration and no request asserted. -/
def State.reset : State :=
  State.powerOn Config.default PowerOn.blank []

end Sys2Proof.Machine
end

