-- ==== Sys2Proof/Machine/Flags.lean ====
section
/-! DEFINITION. Every flag computation of the spec, the word image of the status register, and the flags
that a REP or SEP mask selects. -/

namespace Sys2Proof.Machine

/-- One flag (`SR.f` of `00_scope.md` R13). -/
def StatusRegister.get (sr : StatusRegister) : Flag → Bool
  | .c => sr.c
  | .z => sr.z
  | .i => sr.i
  | .d => sr.d
  | .u => sr.u
  | .v => sr.v
  | .n => sr.n
  | .b => sr.b

/-- The status register made of a value for each flag. -/
def StatusRegister.ofFlags (value : Flag → Bool) : StatusRegister :=
  { c := value .c, z := value .z, i := value .i, d := value .d, u := value .u, v := value .v, n := value .n,
    b := value .b }

/-- `SetNZ(r)`: n is bit 51 of r, z says that r is 0 (`10_state.md` R30). -/
def StatusRegister.setNZ (sr : StatusRegister) (r : Word) : StatusRegister :=
  { sr with n := r.msb, z := decide (r = 0#52) }

/-- The flags c v n z of an addition (`40_arith_logic.md` R122, R123). -/
def StatusRegister.afterAdd (sr : StatusRegister) (a b : Word) : StatusRegister :=
  let r := a + b
  { sr.setNZ r with
    c := decide (2 ^ 52 ≤ a.toNat + b.toNat)
    v := (a.msb == b.msb) && (r.msb != a.msb) }

/-- c after a subtraction: no borrow, or its complement (`40_arith_logic.md` R122, `cfg.sub_carry_is_not_borrow`). -/
def subCarry (cfg : Config) (a b : Word) : Bool :=
  if cfg.subCarryIsNotBorrow then decide (b.toNat ≤ a.toNat) else !decide (b.toNat ≤ a.toNat)

/-- The flags c n z of a comparison; v stays (`40_arith_logic.md` R125). -/
def StatusRegister.afterCompare (sr : StatusRegister) (cfg : Config) (a b : Word) : StatusRegister :=
  { sr.setNZ (a - b) with c := subCarry cfg a b }

/-- The flags c v n z of a subtraction (`40_arith_logic.md` R122, R124). -/
def StatusRegister.afterSub (sr : StatusRegister) (cfg : Config) (a b : Word) : StatusRegister :=
  { sr.afterCompare cfg a b with v := (a.msb != b.msb) && ((a - b).msb != a.msb) }

/-- The flags v n z of a bit test: v is bit 50 of the AND (`40_arith_logic.md` R127). -/
def StatusRegister.afterBit (sr : StatusRegister) (r : Word) : StatusRegister :=
  { sr.setNZ r with v := r.getLsbD 50 }

/-- The flags c n z of a shift or rotate (`42_shift.md` R161). -/
def StatusRegister.afterShift (sr : StatusRegister) (r : Word) (carry : Bool) : StatusRegister :=
  { sr.setNZ r with c := carry }

/-- The image of one flag at its bit (`10_state.md` R34). -/
def flagBit (value : Bool) (position : Fin 52) : Word :=
  if value then 1#52 <<< position.val else 0#52

/-- `PackSR()`: the word image of SR, every other bit 0 (`10_state.md` R34). -/
def packSR (p : FlagPositions) (sr : StatusRegister) : Word :=
  flagBit sr.c p.c ||| flagBit sr.z p.z ||| flagBit sr.i p.i ||| flagBit sr.d p.d ||| flagBit sr.u p.u |||
    flagBit sr.v p.v ||| flagBit sr.n p.n ||| flagBit sr.b p.b

/-- `UnpackSR(w)`: each flag from its bit, the other bits ignored (`10_state.md` R35). -/
def unpackSR (p : FlagPositions) (w : Word) : StatusRegister :=
  StatusRegister.ofFlags fun f => w.getLsbD (p.of f).val

/-- Whether a mask selects a flag (`45_status.md` R250): by default through the flag's image bit, if that is
one of bits 0 to 6; else through the table of `cfg.masksel` (log entry 19). -/
def maskSelects (cfg : Config) (mask : BitVec 7) (f : Flag) : Bool :=
  match cfg.maskSel with
  | .bySrPos => decide ((cfg.srPos.of f).val ≤ 6) && mask.getLsbD (cfg.srPos.of f).val
  | .table flags => (List.range 7).any fun k => mask.getLsbD k && decide (flags[k]? = some (some f))

/-- The flags that REP and SEP can write: c v n z i u, never d or b (`45_status.md` R250). -/
def maskMayWrite : Flag → Bool
  | .c | .v | .n | .z | .i | .u => true
  | .d | .b => false

/-- The flags selected by a mask written with one value (`45_status.md` R251, R252). -/
def StatusRegister.writeMasked (sr : StatusRegister) (cfg : Config) (mask : BitVec 7) (value : Bool) :
    StatusRegister :=
  StatusRegister.ofFlags fun f => if maskMayWrite f && maskSelects cfg mask f then value else sr.get f

end Sys2Proof.Machine
end

