-- ==== Sys2Proof/Machine/Ops.lean ====
section
/-! DEFINITION. The named operations over registers and memory, the stack, taking a trap and returning
from one. -/

namespace Sys2Proof.Machine

/-- The outcome of an instruction, and of a step. -/
abbrev Result := Host.Outcome State Fault Refusal

/-! ## Registers and pc -/

/-- `x[r]`: R0 reads 0 (`10_state.md` R21). -/
def State.readReg (s : State) (r : RegNo) : Word :=
  if r = 0#5 then 0#52 else s.regs[r.toNat]'r.isLt

/-- `x[r] <- v`: a write to R0 is discarded (`10_state.md` R21). -/
def State.writeReg (s : State) (r : RegNo) (v : Word) : State :=
  if r = 0#5 then s else { s with regs := s.regs.set r.toNat v r.isLt }

/-- The accumulator R1 (`10_state.md` R22, R23). -/
def regAcc : RegNo := 1#5

/-- The index register x, R2 (`10_state.md` R22, R23). -/
def regX : RegNo := 2#5

/-- The index register y, R3 (`10_state.md` R22, R23). -/
def regY : RegNo := 3#5

/-- The stack pointer R31 (`10_state.md` R22, R23). -/
def regSp : RegNo := 31#5

/-- The stack pointer's value. -/
def State.sp (s : State) : Word :=
  s.readReg regSp

/-- `pc <- t` (`00_scope.md` R13). -/
def State.setPc (s : State) (t : Word) : State :=
  { s with pc := t }

/-- `pc <- next` for an instruction of `len` bytes (`00_scope.md` R13, `10_state.md` R25, R26). -/
def State.advance (s : State) (len : Nat) : State :=
  s.setPc (s.pc + BitVec.ofNat 52 len)

/-- The status register replaced. -/
def State.setSR (s : State) (sr : StatusRegister) : State :=
  { s with sr := sr }

/-! ## Which accesses the configuration allows -/

/-- The byte is plain memory (`20_memory.md` R52, R65). -/
def plainByte (cfg : Config) (a : Word) : Bool :=
  cfg.memMap.all fun w => !(decide (w.base ≤ a.toNat) && decide (a.toNat < w.base + w.size))

/-- Why a data access to one byte is refused, if it is. -/
def byteRefusal (cfg : Config) (a : Word) : Option Refusal :=
  if plainByte cfg a then none else some .notPlainMemory

/-- Why a data access to the word at an address is refused, if it is: never under the default
configuration (`20_memory.md` R57, R65). -/
def wordRefusal (cfg : Config) (a : Word) : Option Refusal :=
  if !(plainByte cfg a && plainByte cfg (a + 1#52) && plainByte cfg (a + 2#52) && plainByte cfg (a + 3#52)) then
    some .notPlainMemory
  else if cfg.misalignedOk then none
  else if a.toNat % 4 = 0 then none
  else some .misalignedWord

/-- Go on unless an access is refused. -/
def unlessRefused (refusal : Option Refusal) (next : Result) : Result :=
  match refusal with
  | none => next
  | some r => .refused r

/-! ## Memory -/

/-- `MemRead(a, 1)` (`20_memory.md` R53). -/
def State.loadByte (s : State) (a : Word) : Byte :=
  byteAt s.mem a.toNat

/-- `MemRead(a, 4)` (`20_memory.md` R53). -/
def State.loadWord (s : State) (a : Word) : Word :=
  wordAt s.cfg.dataLittleEndian s.mem a

/-- `MemWrite(a, 1, v)` (`20_memory.md` R54); the address counts as stored to (R70). -/
def State.storeByte (s : State) (a : Word) (v : Byte) : State :=
  { s with mem := setByteAt s.mem a.toNat v, written := addAddress s.written a.toNat }

/-- `MemWrite(a, 4, v)`: four bytes, modulo 2^52 (`20_memory.md` R54, R57, R64). -/
def State.storeWord (s : State) (a : Word) (v : Word) : State :=
  (((s.storeByte a (wordByte s.cfg.dataLittleEndian v 0)).storeByte (a + 1#52)
    (wordByte s.cfg.dataLittleEndian v 1)).storeByte (a + 2#52)
    (wordByte s.cfg.dataLittleEndian v 2)).storeByte (a + 3#52) (wordByte s.cfg.dataLittleEndian v 3)

/-! ## The stack -/

/-- `Push(v)`: sp falls by 4, then the word is stored at the new sp (`20_memory.md` R60). -/
def State.push (s : State) (v : Word) : State :=
  (s.writeReg regSp (s.sp - 4#52)).storeWord (s.sp - 4#52) v

/-- The state half of `Pop()`: sp rises by 4; the popped word is `s.loadWord s.sp` (`20_memory.md` R61). -/
def State.dropWord (s : State) : State :=
  s.writeReg regSp (s.sp + 4#52)

/-! ## Traps -/

/-- `vec(kind)` (`60_exceptions.md` R321). -/
def trapVector (cfg : Config) : TrapKind → Word
  | .rst => cfg.vecRst
  | .nmi => cfg.vecNmi
  | .irq => cfg.vecIrq
  | .brk => cfg.vecBrk

/-- Whether the entry pushes: always but for RST, and for RST under `cfg.rst_pushes` (`60_exceptions.md` R320). -/
def trapPushes (cfg : Config) (kind : TrapKind) : Bool :=
  decide (kind ≠ .rst) || cfg.rstPushes

/-- The two pushes of an entry: the return address, then the SR image as it was (`60_exceptions.md` R320). -/
def State.pushTrapFrame (s : State) (ret : Word) : State :=
  (s.push ret).push (packSR s.cfg.srPos s.sr)

/-- The record of stored-to bytes as a trap of a kind finds it: a reset starts it afresh (`20_memory.md` R70, log
entry 28), before it pushes anything, so that the words a reset itself pushes count as stored to since that reset
(DESIGN CHOICE, log entry 43). -/
def State.startRecord (s : State) (kind : TrapKind) : State :=
  { s with written := if kind = .rst then [] else s.written }

/-- The rest of an entry: i, b, the pc from the vector word, and the run state (`60_exceptions.md` R320,
`10_state.md` R32). -/
def State.enterHandler (s : State) (kind : TrapKind) : State :=
  { s with
    sr := { s.sr with i := true, b := decide (kind = .brk) }
    pc := s.loadWord (trapVector s.cfg kind)
    run := .running }

/-- `Trap(kind, ret)`: TAKING AN EXCEPTION, for the instructions RST, NMI, IRQ, BRK and for the request
inputs alike (`60_exceptions.md` R320 to R323). -/
def takeTrap (kind : TrapKind) (ret : Word) (s : State) : Result :=
  if trapPushes s.cfg kind then
    unlessRefused (wordRefusal s.cfg (s.sp - 4#52)) <|
      unlessRefused (wordRefusal s.cfg (s.sp - 8#52)) <|
        unlessRefused (wordRefusal s.cfg (trapVector s.cfg kind)) <|
          .next (((s.startRecord kind).pushTrapFrame ret).enterHandler kind)
  else
    unlessRefused (wordRefusal s.cfg (trapVector s.cfg kind)) <| .next ((s.startRecord kind).enterHandler kind)

/-- The return from a trap: the SR image is popped, then the pc (`43_flow_control.md` R186,
`60_exceptions.md` R324). -/
def returnFromTrap (s : State) : Result :=
  unlessRefused (wordRefusal s.cfg s.sp) <|
    unlessRefused (wordRefusal s.cfg (s.sp + 4#52)) <|
      .next (((s.setSR (unpackSR s.cfg.srPos (s.loadWord s.sp))).dropWord.dropWord).setPc (s.loadWord (s.sp + 4#52)))

end Sys2Proof.Machine
end

