-- ==== Sys2Proof/Machine/Boundary.lean ====
section
/-! DEFINITION. The instruction boundary: which request is accepted, and what the core does if none is
(`60_exceptions.md` R330 to R333). -/

namespace Sys2Proof.Machine

/-- What the core does at a boundary (`60_exceptions.md` R330). -/
inductive BoundaryAction where
  /-- Enter a trap; the return address is pc. -/
  | trap (kind : TrapKind)
  /-- Nothing: stopped, or waiting with no request. -/
  | idle
  /-- Leave `waiting` without a trap: irq with i = 1. -/
  | wake
  /-- Fetch and execute the instruction at pc. -/
  | execute
deriving DecidableEq, Repr

/-- The first rule that applies (`60_exceptions.md` R330). -/
def boundaryAction (req : Requests) (run : RunState) (masked : Bool) : BoundaryAction :=
  if req.rst then .trap .rst
  else if run = .stopped then .idle
  else if req.nmi then .trap .nmi
  else if req.irq && !masked then .trap .irq
  else if run = .waiting then (if req.irq then .wake else .idle)
  else .execute

/-- The requests presented at this boundary. -/
def State.requests (s : State) : Requests :=
  s.inputs.headD Requests.quiet

/-- The state once this boundary's requests have been presented. -/
def State.takeRequests (s : State) : State :=
  { s with inputs := s.inputs.tail }

/-- The action at this boundary. -/
def State.boundary (s : State) : BoundaryAction :=
  boundaryAction s.requests s.run s.sr.i

/-- The state after a wake (`60_exceptions.md` R330, R333). -/
def State.wake (s : State) : State :=
  { s with run := .running }

end Sys2Proof.Machine
end

