-- ==== Sys2Proof/Machine/Operands.lean ====
section
/-! DEFINITION. Every operand form: immediates and displacements, effective addresses, shift counts, jump
and branch targets (`30_encoding.md` R93). -/

namespace Sys2Proof.Machine

/-- `ext_N`: a field extended to 52 bits (`00_scope.md` R13, `30_encoding.md` R93). -/
def extendField {len : Nat} (e : Extension) (v : BitVec len) : Word :=
  match e with
  | .sign => v.signExtend 52
  | .zero => v.zeroExtend 52

/-- The value of an immediate or displacement Imm9, Imm23, Imm36, Disp9, Disp23, Addr36 (`30_encoding.md`
R93, `cfg.imm_ext`). -/
def immediate {len : Nat} (cfg : Config) (v : BitVec len) : Word :=
  extendField cfg.immExt v

/-- The word a loaded byte becomes (`41_load_store.md` R143, `cfg.ldb_ext`). -/
def extendByte (cfg : Config) (v : Byte) : Word :=
  extendField cfg.ldbExt v

/-- The address `[Ra+Rb]`, unscaled, modulo 2^52 (`41_load_store.md` R141). -/
def State.indexedAddress (s : State) (ra rb : RegNo) : Word :=
  s.readReg ra + s.readReg rb

/-- The address `d[Ra]`, modulo 2^52 (`41_load_store.md` R141). -/
def State.baseAddress {len : Nat} (s : State) (ra : RegNo) (disp : BitVec len) : Word :=
  s.readReg ra + immediate s.cfg disp

/-- The shift count in a register: its low `cfg.shift_count_bits` bits (`42_shift.md` R160). -/
def State.registerCount (s : State) (rb : RegNo) : Nat :=
  (s.readReg rb).toNat % 2 ^ s.cfg.shiftCountBits

/-- The target of JMP abs46 and JSR abs46 (`43_flow_control.md` R181, `cfg.jmp46_high`). -/
def State.jumpTarget (s : State) (addr : BitVec 46) : Word :=
  match s.cfg.jmp46High with
  | .zero => addr.zeroExtend 52
  | .keep => s.pc.extractLsb' 46 6 ++ addr

/-- The target of a branch of `len` bytes: the displacement is sign-extended whatever `cfg.imm_ext` says
(`30_encoding.md` R93, `43_flow_control.md` R191, `cfg.branch_base`). -/
def State.branchTarget {bits : Nat} (s : State) (len : Nat) (disp : BitVec bits) : Word :=
  match s.cfg.branchBase with
  | .nextInstruction => s.pc + BitVec.ofNat 52 len + disp.signExtend 52
  | .branchItself => s.pc + disp.signExtend 52

end Sys2Proof.Machine
end

