-- ==== Sys2Proof/Machine/Arith.lean ====
section
/-! DEFINITION. ADD, SUB and CMP (`40_arith_logic.md`). -/

namespace Sys2Proof.Machine

/-- Write a result and its flags, then go on after `len` bytes; the sources were read before
(`40_arith_logic.md` R120, R123). -/
def finishResult (rt : RegNo) (r : Word) (sr : StatusRegister) (len : Nat) (s : State) : Result :=
  .next (((s.setSR sr).writeReg rt r).advance len)

/-- ADD of two operands: no carry input (`40_arith_logic.md` R121, R123). -/
def addInto (rt : RegNo) (a b : Word) (len : Nat) (s : State) : Result :=
  finishResult rt (a + b) (s.sr.afterAdd a b) len s

/-- SUB of two operands (`40_arith_logic.md` R121, R124). -/
def subInto (rt : RegNo) (a b : Word) (len : Nat) (s : State) : Result :=
  finishResult rt (a - b) (s.sr.afterSub s.cfg a b) len s

/-- CMP of two operands: no register and no v (`40_arith_logic.md` R125). -/
def compareWords (a b : Word) (len : Nat) (s : State) : Result :=
  .next ((s.setSR (s.sr.afterCompare s.cfg a b)).advance len)

/-- `ADD Rt,Ra,Rb` (`40_arith_logic.md` R123). -/
def execAddRR (rt ra rb : RegNo) (s : State) : Result :=
  addInto rt (s.readReg ra) (s.readReg rb) 2 s

/-- `ADD Rt,Ra,#imm9` (`40_arith_logic.md` R123). -/
def execAddI9 (rt ra : RegNo) (imm : BitVec 9) (s : State) : Result :=
  addInto rt (s.readReg ra) (immediate s.cfg imm) 2 s

/-- `ADD Rt,Ra,#imm23` (`40_arith_logic.md` R123). -/
def execAddI23 (rt ra : RegNo) (imm : BitVec 23) (s : State) : Result :=
  addInto rt (s.readReg ra) (immediate s.cfg imm) 3 s

/-- `ADD Rt,Ra,#imm36` (`40_arith_logic.md` R123). -/
def execAddI36 (rt ra : RegNo) (imm : BitVec 36) (s : State) : Result :=
  addInto rt (s.readReg ra) (immediate s.cfg imm) 4 s

/-- `SUB Rt,Ra,Rb` (`40_arith_logic.md` R124). -/
def execSubRR (rt ra rb : RegNo) (s : State) : Result :=
  subInto rt (s.readReg ra) (s.readReg rb) 2 s

/-- `SUB Rt,Ra,#imm9` (`40_arith_logic.md` R124). -/
def execSubI9 (rt ra : RegNo) (imm : BitVec 9) (s : State) : Result :=
  subInto rt (s.readReg ra) (immediate s.cfg imm) 2 s

/-- `SUB Rt,Ra,#imm23` (`40_arith_logic.md` R124). -/
def execSubI23 (rt ra : RegNo) (imm : BitVec 23) (s : State) : Result :=
  subInto rt (s.readReg ra) (immediate s.cfg imm) 3 s

/-- `SUB Rt,Ra,#imm36` (`40_arith_logic.md` R124). -/
def execSubI36 (rt ra : RegNo) (imm : BitVec 36) (s : State) : Result :=
  subInto rt (s.readReg ra) (immediate s.cfg imm) 4 s

/-- `CMP Ra,Rb` (`40_arith_logic.md` R125). -/
def execCmpRR (ra rb : RegNo) (s : State) : Result :=
  compareWords (s.readReg ra) (s.readReg rb) 2 s

/-- `CMP Ra,#imm9` (`40_arith_logic.md` R125). -/
def execCmpI9 (ra : RegNo) (imm : BitVec 9) (s : State) : Result :=
  compareWords (s.readReg ra) (immediate s.cfg imm) 2 s

/-- `CMP Ra,#imm23` (`40_arith_logic.md` R125). -/
def execCmpI23 (ra : RegNo) (imm : BitVec 23) (s : State) : Result :=
  compareWords (s.readReg ra) (immediate s.cfg imm) 3 s

/-- `CMP Ra,#imm36` (`40_arith_logic.md` R125). -/
def execCmpI36 (ra : RegNo) (imm : BitVec 36) (s : State) : Result :=
  compareWords (s.readReg ra) (immediate s.cfg imm) 4 s

end Sys2Proof.Machine
end

