-- ==== Sys2Proof/Machine/Branch.lean ====
section
/-! DEFINITION. The branches (`43_flow_control.md` section 3). -/

namespace Sys2Proof.Machine

/-- A branch of `len` bytes, taken or not (`43_flow_control.md` R194). -/
def branchIf {bits : Nat} (taken : Bool) (len : Nat) (disp : BitVec bits) (s : State) : Result :=
  .next (if taken then s.setPc (s.branchTarget len disp) else s.advance len)

/-- `BEQ disp4` (`43_flow_control.md` R195, R192). -/
def execBeqD4 (disp : BitVec 4) (s : State) : Result :=
  branchIf s.sr.z 1 disp s

/-- `BNE disp4` (`43_flow_control.md` R196, R192). -/
def execBneD4 (disp : BitVec 4) (s : State) : Result :=
  branchIf (!s.sr.z) 1 disp s

/-- `BPL disp4` (`43_flow_control.md` R197, R192). -/
def execBplD4 (disp : BitVec 4) (s : State) : Result :=
  branchIf (!s.sr.n) 1 disp s

/-- `BMI disp4` (`43_flow_control.md` R198, R192). -/
def execBmiD4 (disp : BitVec 4) (s : State) : Result :=
  branchIf s.sr.n 1 disp s

/-- `BVS disp4` (`43_flow_control.md` R199, R192). -/
def execBvsD4 (disp : BitVec 4) (s : State) : Result :=
  branchIf s.sr.v 1 disp s

/-- `BVC disp4` (`43_flow_control.md` R200, R192). -/
def execBvcD4 (disp : BitVec 4) (s : State) : Result :=
  branchIf (!s.sr.v) 1 disp s

/-- `BCS disp4` (`43_flow_control.md` R201, R192). -/
def execBcsD4 (disp : BitVec 4) (s : State) : Result :=
  branchIf s.sr.c 1 disp s

/-- `BCC disp4` (`43_flow_control.md` R202, R192). -/
def execBccD4 (disp : BitVec 4) (s : State) : Result :=
  branchIf (!s.sr.c) 1 disp s

/-- `BEQ disp17` (`43_flow_control.md` R195, R192). -/
def execBeqD17 (disp : BitVec 17) (s : State) : Result :=
  branchIf s.sr.z 2 disp s

/-- `BNE disp17` (`43_flow_control.md` R196, R192). -/
def execBneD17 (disp : BitVec 17) (s : State) : Result :=
  branchIf (!s.sr.z) 2 disp s

/-- `BPL disp17` (`43_flow_control.md` R197, R192). -/
def execBplD17 (disp : BitVec 17) (s : State) : Result :=
  branchIf (!s.sr.n) 2 disp s

/-- `BMI disp17` (`43_flow_control.md` R198, R192). -/
def execBmiD17 (disp : BitVec 17) (s : State) : Result :=
  branchIf s.sr.n 2 disp s

/-- `BVS disp17` (`43_flow_control.md` R199, R192). -/
def execBvsD17 (disp : BitVec 17) (s : State) : Result :=
  branchIf s.sr.v 2 disp s

/-- `BVC disp17` (`43_flow_control.md` R200, R192). -/
def execBvcD17 (disp : BitVec 17) (s : State) : Result :=
  branchIf (!s.sr.v) 2 disp s

/-- `BCS disp17` (`43_flow_control.md` R201, R192). -/
def execBcsD17 (disp : BitVec 17) (s : State) : Result :=
  branchIf s.sr.c 2 disp s

/-- `BCC disp17` (`43_flow_control.md` R202, R192). -/
def execBccD17 (disp : BitVec 17) (s : State) : Result :=
  branchIf (!s.sr.c) 2 disp s

/-- `BRA disp4` (`43_flow_control.md` R203). -/
def execBraD4 (disp : BitVec 4) (s : State) : Result :=
  .next (s.setPc (s.branchTarget 1 disp))

/-- `BRA disp17` (`43_flow_control.md` R203). -/
def execBraD17 (disp : BitVec 17) (s : State) : Result :=
  .next (s.setPc (s.branchTarget 2 disp))

end Sys2Proof.Machine
end

