-- ==== Sys2Proof/Machine/Flow.lean ====
section
/-! DEFINITION. Jumps, calls, returns, PFI, NOP, WAI and STP (`43_flow_control.md` sections 1 and 2). -/

namespace Sys2Proof.Machine

/-- `JMP abs46` (`43_flow_control.md` R181). -/
def execJmpAbs (addr : BitVec 46) (s : State) : Result :=
  .next (s.setPc (s.jumpTarget addr))

/-- `JMP [Ra]` (`43_flow_control.md` R182). -/
def execJmpReg (ra : RegNo) (s : State) : Result :=
  .next (s.setPc (s.readReg ra))

/-- JSR: the address of the next instruction is pushed; the target was read before (`43_flow_control.md`
R183, R184). -/
def callSubroutine (target : Word) (len : Nat) (s : State) : Result :=
  unlessRefused (wordRefusal s.cfg (s.sp - 4#52)) <| .next ((s.push (s.pc + BitVec.ofNat 52 len)).setPc target)

/-- `JSR abs46` (`43_flow_control.md` R183). -/
def execJsrAbs (addr : BitVec 46) (s : State) : Result :=
  callSubroutine (s.jumpTarget addr) 4 s

/-- `JSR [Ra]` (`43_flow_control.md` R184). -/
def execJsrReg (ra : RegNo) (s : State) : Result :=
  callSubroutine (s.readReg ra) 1 s

/-- `RTS`: the popped word is the new pc, unchanged (`43_flow_control.md` R185). -/
def execRts (s : State) : Result :=
  unlessRefused (wordRefusal s.cfg s.sp) <| .next (s.dropWord.setPc (s.loadWord s.sp))

/-- `RTI`: SR, then pc, from the stack (`43_flow_control.md` R186). -/
def execRti (s : State) : Result :=
  returnFromTrap s

/-- `PFI`: no meaning in any source, or a one-byte no-operation (`43_flow_control.md` R187, `cfg.pfi`). -/
def execPfi (s : State) : Result :=
  match s.cfg.pfi with
  | .refuse => .fault .noMeaning
  | .nop => .next (s.advance 1)

/-- `NOP` (`43_flow_control.md` R188). -/
def execNop (s : State) : Result :=
  .next (s.advance 1)

/-- `WAI`: pc goes on, then the core waits (`43_flow_control.md` R189). -/
def execWai (s : State) : Result :=
  .next { s.advance 1 with run := .waiting }

/-- `STP`: pc goes on, then the core is stopped (`43_flow_control.md` R190). -/
def execStp (s : State) : Result :=
  .next { s.advance 1 with run := .stopped }

end Sys2Proof.Machine
end

