-- ==== Sys2Proof/Machine/LoadStore.lean ====
section
/-! DEFINITION. LD, LDB, ST and STB (`41_load_store.md`). -/

namespace Sys2Proof.Machine

/-- LD: the word at an address to a register, n z from it (`41_load_store.md` R142). -/
def loadInto (rt : RegNo) (ea : Word) (len : Nat) (s : State) : Result :=
  unlessRefused (wordRefusal s.cfg ea) <|
    .next (((s.setSR (s.sr.setNZ (s.loadWord ea))).writeReg rt (s.loadWord ea)).advance len)

/-- ST: a register to the word at an address; no flag, or n z under `cfg.st_writes_nz` (`41_load_store.md`
R144, `90_conflicts.md` C4). -/
def storeFrom (rs : RegNo) (ea : Word) (len : Nat) (s : State) : Result :=
  let sr := if s.cfg.stWritesNz then s.sr.setNZ (s.readReg rs) else s.sr
  unlessRefused (wordRefusal s.cfg ea) <| .next (((s.storeWord ea (s.readReg rs)).setSR sr).advance len)

/-- `LD Rt,[Ra+Rb]` (`41_load_store.md` R142). -/
def execLdRR (rt ra rb : RegNo) (s : State) : Result :=
  loadInto rt (s.indexedAddress ra rb) 2 s

/-- `LD Rt,d9[Ra]` (`41_load_store.md` R142). -/
def execLdD9 (rt ra : RegNo) (disp : BitVec 9) (s : State) : Result :=
  loadInto rt (s.baseAddress ra disp) 2 s

/-- `LD Rt,d23[Ra]` (`41_load_store.md` R142). -/
def execLdD23 (rt ra : RegNo) (disp : BitVec 23) (s : State) : Result :=
  loadInto rt (s.baseAddress ra disp) 3 s

/-- `LD Rt,d36[Ra]` (`41_load_store.md` R142). -/
def execLdD36 (rt ra : RegNo) (disp : BitVec 36) (s : State) : Result :=
  loadInto rt (s.baseAddress ra disp) 4 s

/-- `LDB Rt,d36[Ra]`: one byte, extended, n z from the 52-bit value (`41_load_store.md` R143). -/
def execLdb (rt ra : RegNo) (disp : BitVec 36) (s : State) : Result :=
  let ea := s.baseAddress ra disp
  let r := extendByte s.cfg (s.loadByte ea)
  unlessRefused (byteRefusal s.cfg ea) <| .next (((s.setSR (s.sr.setNZ r)).writeReg rt r).advance 4)

/-- `ST Rs,[Ra+Rb]` (`41_load_store.md` R144). -/
def execStRR (rs ra rb : RegNo) (s : State) : Result :=
  storeFrom rs (s.indexedAddress ra rb) 2 s

/-- `ST Rs,d9[Ra]` (`41_load_store.md` R144). -/
def execStD9 (rs ra : RegNo) (disp : BitVec 9) (s : State) : Result :=
  storeFrom rs (s.baseAddress ra disp) 2 s

/-- `ST Rs,d23[Ra]` (`41_load_store.md` R144). -/
def execStD23 (rs ra : RegNo) (disp : BitVec 23) (s : State) : Result :=
  storeFrom rs (s.baseAddress ra disp) 3 s

/-- `ST Rs,d36[Ra]` (`41_load_store.md` R144). -/
def execStD36 (rs ra : RegNo) (disp : BitVec 36) (s : State) : Result :=
  storeFrom rs (s.baseAddress ra disp) 4 s

/-- `STB Rs,d36[Ra]`: bits 12..0 of the register to one byte (`41_load_store.md` R145). -/
def execStb (rs ra : RegNo) (disp : BitVec 36) (s : State) : Result :=
  let ea := s.baseAddress ra disp
  unlessRefused (byteRefusal s.cfg ea) <| .next ((s.storeByte ea ((s.readReg rs).extractLsb' 0 13)).advance 4)

end Sys2Proof.Machine
end

