-- ==== Sys2Proof/Machine/Logic.lean ====
section
/-! DEFINITION. AND, BIT, OR and EOR (`40_arith_logic.md`). -/

namespace Sys2Proof.Machine

/-- AND, OR, EOR: the result to the target, n z from it (`40_arith_logic.md` R126, R128, R129). -/
def logicInto (rt : RegNo) (r : Word) (len : Nat) (s : State) : Result :=
  finishResult rt r (s.sr.setNZ r) len s

/-- BIT: the flags of the AND, no register (`40_arith_logic.md` R127). -/
def bitTest (a b : Word) (len : Nat) (s : State) : Result :=
  .next ((s.setSR (s.sr.afterBit (a &&& b))).advance len)

/-- `AND Rt,Ra,Rb` (`40_arith_logic.md` R126). -/
def execAndRR (rt ra rb : RegNo) (s : State) : Result :=
  logicInto rt (s.readReg ra &&& s.readReg rb) 2 s

/-- `AND Rt,Ra,#imm9` (`40_arith_logic.md` R126). -/
def execAndI9 (rt ra : RegNo) (imm : BitVec 9) (s : State) : Result :=
  logicInto rt (s.readReg ra &&& immediate s.cfg imm) 2 s

/-- `AND Rt,Ra,#imm23` (`40_arith_logic.md` R126). -/
def execAndI23 (rt ra : RegNo) (imm : BitVec 23) (s : State) : Result :=
  logicInto rt (s.readReg ra &&& immediate s.cfg imm) 3 s

/-- `AND Rt,Ra,#imm36` (`40_arith_logic.md` R126). -/
def execAndI36 (rt ra : RegNo) (imm : BitVec 36) (s : State) : Result :=
  logicInto rt (s.readReg ra &&& immediate s.cfg imm) 4 s

/-- `BIT Ra,Rb` (`40_arith_logic.md` R127). -/
def execBitRR (ra rb : RegNo) (s : State) : Result :=
  bitTest (s.readReg ra) (s.readReg rb) 2 s

/-- `BIT Ra,#imm9` (`40_arith_logic.md` R127). -/
def execBitI9 (ra : RegNo) (imm : BitVec 9) (s : State) : Result :=
  bitTest (s.readReg ra) (immediate s.cfg imm) 2 s

/-- `BIT Ra,#imm23` (`40_arith_logic.md` R127). -/
def execBitI23 (ra : RegNo) (imm : BitVec 23) (s : State) : Result :=
  bitTest (s.readReg ra) (immediate s.cfg imm) 3 s

/-- `BIT Ra,#imm36` (`40_arith_logic.md` R127). -/
def execBitI36 (ra : RegNo) (imm : BitVec 36) (s : State) : Result :=
  bitTest (s.readReg ra) (immediate s.cfg imm) 4 s

/-- `OR Rt,Ra,Rb` (`40_arith_logic.md` R128). -/
def execOrRR (rt ra rb : RegNo) (s : State) : Result :=
  logicInto rt (s.readReg ra ||| s.readReg rb) 2 s

/-- `OR Rt,Ra,#imm9` (`40_arith_logic.md` R128). -/
def execOrI9 (rt ra : RegNo) (imm : BitVec 9) (s : State) : Result :=
  logicInto rt (s.readReg ra ||| immediate s.cfg imm) 2 s

/-- `OR Rt,Ra,#imm23` (`40_arith_logic.md` R128). -/
def execOrI23 (rt ra : RegNo) (imm : BitVec 23) (s : State) : Result :=
  logicInto rt (s.readReg ra ||| immediate s.cfg imm) 3 s

/-- `OR Rt,Ra,#imm36` (`40_arith_logic.md` R128). -/
def execOrI36 (rt ra : RegNo) (imm : BitVec 36) (s : State) : Result :=
  logicInto rt (s.readReg ra ||| immediate s.cfg imm) 4 s

/-- `EOR Rt,Ra,Rb` (`40_arith_logic.md` R129). -/
def execEorRR (rt ra rb : RegNo) (s : State) : Result :=
  logicInto rt (s.readReg ra ^^^ s.readReg rb) 2 s

/-- `EOR Rt,Ra,#imm9` (`40_arith_logic.md` R129). -/
def execEorI9 (rt ra : RegNo) (imm : BitVec 9) (s : State) : Result :=
  logicInto rt (s.readReg ra ^^^ immediate s.cfg imm) 2 s

/-- `EOR Rt,Ra,#imm23` (`40_arith_logic.md` R129). -/
def execEorI23 (rt ra : RegNo) (imm : BitVec 23) (s : State) : Result :=
  logicInto rt (s.readReg ra ^^^ immediate s.cfg imm) 3 s

/-- `EOR Rt,Ra,#imm36` (`40_arith_logic.md` R129). -/
def execEorI36 (rt ra : RegNo) (imm : BitVec 36) (s : State) : Result :=
  logicInto rt (s.readReg ra ^^^ immediate s.cfg imm) 4 s

end Sys2Proof.Machine
end

