-- ==== Sys2Proof/Machine/Shift.lean ====
section
/-! DEFINITION. ASL, ROL, LSR and ROR (`42_shift.md`). -/

namespace Sys2Proof.Machine

/-- A value and a carry, as the one-bit steps of a shift pass them on (`42_shift.md` R161). -/
abbrev Shifted := Word × Bool

/-- `k` one-bit steps (`42_shift.md` R161). -/
def repeatStep (step : Shifted → Shifted) : Nat → Shifted → Shifted
  | 0, x => x
  | k + 1, x => repeatStep step k (step x)

/-- One bit of ASL (`42_shift.md` R163). -/
def aslStep (x : Shifted) : Shifted :=
  (x.1 <<< 1, x.1.msb)

/-- One bit of LSR (`42_shift.md` R165). -/
def lsrStep (x : Shifted) : Shifted :=
  (x.1 >>> 1, x.1.getLsbD 0)

/-- One bit of ROL, through the carry or not (`42_shift.md` R164, `cfg.rotate_through_carry`). -/
def rolStep (throughCarry : Bool) (x : Shifted) : Shifted :=
  let entering := if throughCarry then x.2 else x.1.msb
  (x.1 <<< 1 ||| (BitVec.ofBool entering).zeroExtend 52, x.1.msb)

/-- One bit of ROR, through the carry or not (`42_shift.md` R166, `cfg.rotate_through_carry`). -/
def rorStep (throughCarry : Bool) (x : Shifted) : Shifted :=
  let entering := if throughCarry then x.2 else x.1.getLsbD 0
  (x.1 >>> 1 ||| (BitVec.ofBool entering).zeroExtend 52 <<< 51, x.1.getLsbD 0)

/-- A shift or rotate by `k` steps: c n z, then the target (`42_shift.md` R161). -/
def shiftInto (rt : RegNo) (step : Shifted → Shifted) (a : Word) (k : Nat) (s : State) : Result :=
  let out := repeatStep step k (a, s.sr.c)
  .next (((s.setSR (s.sr.afterShift out.1 out.2)).writeReg rt out.1).advance 2)

/-- `ASL Rt,Ra,Rb` (`42_shift.md` R163). -/
def execAslRR (rt ra rb : RegNo) (s : State) : Result :=
  shiftInto rt aslStep (s.readReg ra) (s.registerCount rb) s

/-- `ASL Rt,Ra,#imm6` (`42_shift.md` R163). -/
def execAslI6 (rt ra : RegNo) (count : BitVec 6) (s : State) : Result :=
  shiftInto rt aslStep (s.readReg ra) count.toNat s

/-- `ROL Rt,Ra,Rb` (`42_shift.md` R164). -/
def execRolRR (rt ra rb : RegNo) (s : State) : Result :=
  shiftInto rt (rolStep s.cfg.rotateThroughCarry) (s.readReg ra) (s.registerCount rb) s

/-- `ROL Rt,Ra,#imm6` (`42_shift.md` R164). -/
def execRolI6 (rt ra : RegNo) (count : BitVec 6) (s : State) : Result :=
  shiftInto rt (rolStep s.cfg.rotateThroughCarry) (s.readReg ra) count.toNat s

/-- `LSR Rt,Ra,Rb` (`42_shift.md` R165). -/
def execLsrRR (rt ra rb : RegNo) (s : State) : Result :=
  shiftInto rt lsrStep (s.readReg ra) (s.registerCount rb) s

/-- `LSR Rt,Ra,#imm6` (`42_shift.md` R165). -/
def execLsrI6 (rt ra : RegNo) (count : BitVec 6) (s : State) : Result :=
  shiftInto rt lsrStep (s.readReg ra) count.toNat s

/-- `ROR Rt,Ra,Rb` (`42_shift.md` R166). -/
def execRorRR (rt ra rb : RegNo) (s : State) : Result :=
  shiftInto rt (rorStep s.cfg.rotateThroughCarry) (s.readReg ra) (s.registerCount rb) s

/-- `ROR Rt,Ra,#imm6` (`42_shift.md` R166). -/
def execRorI6 (rt ra : RegNo) (count : BitVec 6) (s : State) : Result :=
  shiftInto rt (rorStep s.cfg.rotateThroughCarry) (s.readReg ra) count.toNat s

end Sys2Proof.Machine
end

