-- ==== Sys2Proof/Machine/Stack.lean ====
section
/-! DEFINITION. PHP, PSH, PLP and POP (`44_stack.md`). -/

namespace Sys2Proof.Machine

/-- `PHP`: the SR image is pushed (`44_stack.md` R231). -/
def execPhp (s : State) : Result :=
  unlessRefused (wordRefusal s.cfg (s.sp - 4#52)) <| .next ((s.push (packSR s.cfg.srPos s.sr)).advance 1)

/-- `PSH Ra`: Ra is read after sp has fallen, so PSH sp stores the new sp (`44_stack.md` R232). -/
def execPsh (ra : RegNo) (s : State) : Result :=
  unlessRefused (wordRefusal s.cfg (s.sp - 4#52)) <|
    .next ((s.push ((s.writeReg regSp (s.sp - 4#52)).readReg ra)).advance 1)

/-- `PLP`: all eight flags from the popped word (`44_stack.md` R233). -/
def execPlp (s : State) : Result :=
  unlessRefused (wordRefusal s.cfg s.sp) <|
    .next (((s.setSR (unpackSR s.cfg.srPos (s.loadWord s.sp))).dropWord).advance 1)

/-- `POP Rt`: n z from the popped word; Rt is written last, so POP sp leaves sp at the popped word
(`44_stack.md` R234). -/
def execPop (rt : RegNo) (s : State) : Result :=
  unlessRefused (wordRefusal s.cfg s.sp) <|
    .next ((((s.setSR (s.sr.setNZ (s.loadWord s.sp))).dropWord).writeReg rt (s.loadWord s.sp)).advance 1)

end Sys2Proof.Machine
end

