-- ==== Sys2Proof/Machine/Status.lean ====
section
/-! DEFINITION. REP and SEP (`45_status.md`). -/

namespace Sys2Proof.Machine

/-- `REP #mask7` (`45_status.md` R251, R250). -/
def execRep (mask : BitVec 7) (s : State) : Result :=
  .next ((s.setSR (s.sr.writeMasked s.cfg mask false)).advance 1)

/-- `SEP #mask7` (`45_status.md` R252, R250). -/
def execSep (mask : BitVec 7) (s : State) : Result :=
  .next ((s.setSR (s.sr.writeMasked s.cfg mask true)).advance 1)

end Sys2Proof.Machine
end

