-- ==== Sys2Proof/Machine/Strings.lean ====
section
/-! DEFINITION. The string instructions, one element per execution (`46_string.md`). -/

namespace Sys2Proof.Machine

/-- The element a string instruction works on: a word or a byte (`46_string.md` R269). -/
inductive Element where
  | word | byte
deriving DecidableEq, Repr

/-- The address step of an element (`46_string.md` R264, R269). -/
def elementSize : Element → Word
  | .word => 4#52
  | .byte => 1#52

/-- Why an access to an element is refused, if it is. -/
def elementRefusal (cfg : Config) (e : Element) (a : Word) : Option Refusal :=
  match e with
  | .word => wordRefusal cfg a
  | .byte => byteRefusal cfg a

/-- The element at an address as the temporary register holds it; a byte is extended as LDB extends it
(`46_string.md` R269). -/
def State.loadElement (s : State) (e : Element) (a : Word) : Word :=
  match e with
  | .word => s.loadWord a
  | .byte => extendByte s.cfg (s.loadByte a)

/-- An element stored: the whole word, or bits 12..0 (`46_string.md` R266, R272). -/
def State.storeElement (s : State) (e : Element) (a : Word) (v : Word) : State :=
  match e with
  | .word => s.storeWord a v
  | .byte => s.storeByte a (v.extractLsb' 0 13)

/-- The count goes down by one; the flags stay, or are those of `SUB acc,acc,#1` under
`cfg.string_flags_from_count` (`46_string.md` R263, `90_conflicts.md` C11). -/
def State.countDown (s : State) : State :=
  let sr := if s.cfg.stringFlagsFromCount then s.sr.afterSub s.cfg (s.readReg regAcc) 1#52 else s.sr
  (s.setSR sr).writeReg regAcc (s.readReg regAcc - 1#52)

/-- `BNE PC`: the instruction repeats while the count is not 0 (`46_string.md` R261, R263). -/
def State.repeatWhileCount (s : State) : State :=
  if s.readReg regAcc = 0#52 then s.advance 1 else s

/-- One element of MVN, MVP, MVNB, MVPB; `delta` is the step of both addresses (`46_string.md` R264, R265). -/
def moveElement (e : Element) (delta : Word) (s : State) : Result :=
  let x := s.readReg regX
  let y := s.readReg regY
  unlessRefused (elementRefusal s.cfg e x) <|
    unlessRefused (elementRefusal s.cfg e y) <|
      .next ((((s.storeElement e y (s.loadElement e x)).writeReg regX (x + delta)).writeReg regY
        (y + delta)).countDown.repeatWhileCount)

/-- One element of STS, STSB: x is the value stored (`46_string.md` R266, R272). -/
def fillElement (e : Element) (s : State) : Result :=
  let y := s.readReg regY
  unlessRefused (elementRefusal s.cfg e y) <|
    .next (((s.storeElement e y (s.readReg regX)).writeReg regY (y + elementSize e)).countDown.repeatWhileCount)

/-- The end of one element of a compare: out of count without comparing, or the compare's c n z and a repeat
while equal (`46_string.md` R267, R268). -/
def State.compareUnlessOut (s : State) (t1 t2 : Word) : State :=
  if s.readReg regAcc = 0#52 then s.advance 1
  else
    let compared := s.setSR (s.sr.afterCompare s.cfg t1 t2)
    if t1 - t2 = 0#52 then compared else compared.advance 1

/-- One element of CMPS, CMPSB (`46_string.md` R267, R273). -/
def compareElement (e : Element) (s : State) : Result :=
  let x := s.readReg regX
  let y := s.readReg regY
  unlessRefused (elementRefusal s.cfg e x) <|
    unlessRefused (elementRefusal s.cfg e y) <|
      .next (((s.writeReg regX (x + elementSize e)).writeReg regY (y + elementSize e)).countDown.compareUnlessOut
        (s.loadElement e x) (s.loadElement e y))

/-- `MVN` (`46_string.md` R264). -/
def execMvn (s : State) : Result :=
  moveElement .word 4#52 s

/-- `MVP` (`46_string.md` R265). -/
def execMvp (s : State) : Result :=
  moveElement .word (-4#52) s

/-- `STS` (`46_string.md` R266). -/
def execSts (s : State) : Result :=
  fillElement .word s

/-- `CMPS` (`46_string.md` R267). -/
def execCmps (s : State) : Result :=
  compareElement .word s

/-- `MVNB` (`46_string.md` R270). -/
def execMvnb (s : State) : Result :=
  moveElement .byte 1#52 s

/-- `MVPB` (`46_string.md` R271). -/
def execMvpb (s : State) : Result :=
  moveElement .byte (-1#52) s

/-- `STSB` (`46_string.md` R272). -/
def execStsb (s : State) : Result :=
  fillElement .byte s

/-- `CMPSB` (`46_string.md` R273). -/
def execCmpsb (s : State) : Result :=
  compareElement .byte s

end Sys2Proof.Machine
end

