-- ==== Sys2Proof/Machine/Trap.lean ====
section
/-! DEFINITION. RST, NMI, IRQ and BRK as instructions (`43_flow_control.md` section 4). -/

namespace Sys2Proof.Machine

/-- `RST` (`43_flow_control.md` R210, `60_exceptions.md` R320). -/
def execRst (s : State) : Result :=
  takeTrap .rst (s.pc + 1#52) s

/-- `NMI` (`43_flow_control.md` R211, `60_exceptions.md` R320). -/
def execNmi (s : State) : Result :=
  takeTrap .nmi (s.pc + 1#52) s

/-- `IRQ` (`43_flow_control.md` R212, `60_exceptions.md` R320). -/
def execIrq (s : State) : Result :=
  takeTrap .irq (s.pc + 1#52) s

/-- `BRK #const4`: the constant is for software and has no effect (`43_flow_control.md` R213, R214,
`60_exceptions.md` R320). -/
def execBrk (_const : BitVec 4) (s : State) : Result :=
  takeTrap .brk (s.pc + 1#52) s

end Sys2Proof.Machine
end

