-- ==== Sys2Proof/Syntax.lean ====
section
/-! DEFINITION. The instructions: one constructor for each row of `spec/opcode_table.json`
(`30_encoding.md` R96). Operands are the instruction's fields: register numbers, and immediates,
displacements, addresses, masks and constants at the width of their field. -/

namespace Sys2Proof

/-- An instruction of the table, with its fields. Unused bits are no part of it (`30_encoding.md` R99). -/
inductive Instr where
  /-- `ADD Rt,Ra,Rb`, `40_arith_logic.md` R123. -/
  | addRR (rt ra rb : RegNo)
  /-- `ADD Rt,Ra,#imm9`, `40_arith_logic.md` R123. -/
  | addI9 (rt ra : RegNo) (imm : BitVec 9)
  /-- `ADD Rt,Ra,#imm23`, `40_arith_logic.md` R123. -/
  | addI23 (rt ra : RegNo) (imm : BitVec 23)
  /-- `ADD Rt,Ra,#imm36`, `40_arith_logic.md` R123. -/
  | addI36 (rt ra : RegNo) (imm : BitVec 36)
  /-- `CMP Ra,Rb`, `40_arith_logic.md` R125. -/
  | cmpRR (ra rb : RegNo)
  /-- `CMP Ra,#imm9`, `40_arith_logic.md` R125. -/
  | cmpI9 (ra : RegNo) (imm : BitVec 9)
  /-- `CMP Ra,#imm23`, `40_arith_logic.md` R125. -/
  | cmpI23 (ra : RegNo) (imm : BitVec 23)
  /-- `CMP Ra,#imm36`, `40_arith_logic.md` R125. -/
  | cmpI36 (ra : RegNo) (imm : BitVec 36)
  /-- `SUB Rt,Ra,Rb`, `40_arith_logic.md` R124. -/
  | subRR (rt ra rb : RegNo)
  /-- `SUB Rt,Ra,#imm9`, `40_arith_logic.md` R124. -/
  | subI9 (rt ra : RegNo) (imm : BitVec 9)
  /-- `SUB Rt,Ra,#imm23`, `40_arith_logic.md` R124. -/
  | subI23 (rt ra : RegNo) (imm : BitVec 23)
  /-- `SUB Rt,Ra,#imm36`, `40_arith_logic.md` R124. -/
  | subI36 (rt ra : RegNo) (imm : BitVec 36)
  /-- `BIT Ra,Rb`, `40_arith_logic.md` R127. -/
  | bitRR (ra rb : RegNo)
  /-- `BIT Ra,#imm9`, `40_arith_logic.md` R127. -/
  | bitI9 (ra : RegNo) (imm : BitVec 9)
  /-- `BIT Ra,#imm23`, `40_arith_logic.md` R127. -/
  | bitI23 (ra : RegNo) (imm : BitVec 23)
  /-- `BIT Ra,#imm36`, `40_arith_logic.md` R127. -/
  | bitI36 (ra : RegNo) (imm : BitVec 36)
  /-- `AND Rt,Ra,Rb`, `40_arith_logic.md` R126. -/
  | andRR (rt ra rb : RegNo)
  /-- `AND Rt,Ra,#imm9`, `40_arith_logic.md` R126. -/
  | andI9 (rt ra : RegNo) (imm : BitVec 9)
  /-- `AND Rt,Ra,#imm23`, `40_arith_logic.md` R126. -/
  | andI23 (rt ra : RegNo) (imm : BitVec 23)
  /-- `AND Rt,Ra,#imm36`, `40_arith_logic.md` R126. -/
  | andI36 (rt ra : RegNo) (imm : BitVec 36)
  /-- `OR Rt,Ra,Rb`, `40_arith_logic.md` R128. -/
  | orRR (rt ra rb : RegNo)
  /-- `OR Rt,Ra,#imm9`, `40_arith_logic.md` R128. -/
  | orI9 (rt ra : RegNo) (imm : BitVec 9)
  /-- `OR Rt,Ra,#imm23`, `40_arith_logic.md` R128. -/
  | orI23 (rt ra : RegNo) (imm : BitVec 23)
  /-- `OR Rt,Ra,#imm36`, `40_arith_logic.md` R128. -/
  | orI36 (rt ra : RegNo) (imm : BitVec 36)
  /-- `EOR Rt,Ra,Rb`, `40_arith_logic.md` R129. -/
  | eorRR (rt ra rb : RegNo)
  /-- `EOR Rt,Ra,#imm9`, `40_arith_logic.md` R129. -/
  | eorI9 (rt ra : RegNo) (imm : BitVec 9)
  /-- `EOR Rt,Ra,#imm23`, `40_arith_logic.md` R129. -/
  | eorI23 (rt ra : RegNo) (imm : BitVec 23)
  /-- `EOR Rt,Ra,#imm36`, `40_arith_logic.md` R129. -/
  | eorI36 (rt ra : RegNo) (imm : BitVec 36)
  /-- `LD Rt,[Ra+Rb]`, `41_load_store.md` R142. -/
  | ldRR (rt ra rb : RegNo)
  /-- `LD Rt,d9[Ra]`, `41_load_store.md` R142. -/
  | ldD9 (rt ra : RegNo) (disp : BitVec 9)
  /-- `LD Rt,d23[Ra]`, `41_load_store.md` R142. -/
  | ldD23 (rt ra : RegNo) (disp : BitVec 23)
  /-- `LD Rt,d36[Ra]`, `41_load_store.md` R142. -/
  | ldD36 (rt ra : RegNo) (disp : BitVec 36)
  /-- `LDB Rt,d36[Ra]`, `41_load_store.md` R143. -/
  | ldb (rt ra : RegNo) (disp : BitVec 36)
  /-- `ST Rs,[Ra+Rb]`, `41_load_store.md` R144. -/
  | stRR (rs ra rb : RegNo)
  /-- `ST Rs,d9[Ra]`, `41_load_store.md` R144. -/
  | stD9 (rs ra : RegNo) (disp : BitVec 9)
  /-- `ST Rs,d23[Ra]`, `41_load_store.md` R144. -/
  | stD23 (rs ra : RegNo) (disp : BitVec 23)
  /-- `ST Rs,d36[Ra]`, `41_load_store.md` R144. -/
  | stD36 (rs ra : RegNo) (disp : BitVec 36)
  /-- `STB Rs,d36[Ra]`, `41_load_store.md` R145. -/
  | stb (rs ra : RegNo) (disp : BitVec 36)
  /-- `ASL Rt,Ra,Rb`, `42_shift.md` R163. -/
  | aslRR (rt ra rb : RegNo)
  /-- `ASL Rt,Ra,#imm6`, `42_shift.md` R163. -/
  | aslI6 (rt ra : RegNo) (count : BitVec 6)
  /-- `ROL Rt,Ra,Rb`, `42_shift.md` R164. -/
  | rolRR (rt ra rb : RegNo)
  /-- `ROL Rt,Ra,#imm6`, `42_shift.md` R164. -/
  | rolI6 (rt ra : RegNo) (count : BitVec 6)
  /-- `LSR Rt,Ra,Rb`, `42_shift.md` R165. -/
  | lsrRR (rt ra rb : RegNo)
  /-- `LSR Rt,Ra,#imm6`, `42_shift.md` R165. -/
  | lsrI6 (rt ra : RegNo) (count : BitVec 6)
  /-- `ROR Rt,Ra,Rb`, `42_shift.md` R166. -/
  | rorRR (rt ra rb : RegNo)
  /-- `ROR Rt,Ra,#imm6`, `42_shift.md` R166. -/
  | rorI6 (rt ra : RegNo) (count : BitVec 6)
  /-- `JMP abs46`, `43_flow_control.md` R181. -/
  | jmpAbs (addr : BitVec 46)
  /-- `JSR abs46`, `43_flow_control.md` R183. -/
  | jsrAbs (addr : BitVec 46)
  /-- `JMP [Ra]`, `43_flow_control.md` R182. -/
  | jmpReg (ra : RegNo)
  /-- `JSR [Ra]`, `43_flow_control.md` R184. -/
  | jsrReg (ra : RegNo)
  /-- `RTS`, `43_flow_control.md` R185. -/
  | rts
  /-- `RTI`, `43_flow_control.md` R186. -/
  | rti
  /-- `PFI`, `43_flow_control.md` R187. -/
  | pfi
  /-- `WAI`, `43_flow_control.md` R189. -/
  | wai
  /-- `STP`, `43_flow_control.md` R190. -/
  | stp
  /-- `NOP`, `43_flow_control.md` R188. -/
  | nop
  /-- `BEQ disp4`, `43_flow_control.md` R195. -/
  | beqD4 (disp : BitVec 4)
  /-- `BNE disp4`, `43_flow_control.md` R196. -/
  | bneD4 (disp : BitVec 4)
  /-- `BPL disp4`, `43_flow_control.md` R197. -/
  | bplD4 (disp : BitVec 4)
  /-- `BMI disp4`, `43_flow_control.md` R198. -/
  | bmiD4 (disp : BitVec 4)
  /-- `BVS disp4`, `43_flow_control.md` R199. -/
  | bvsD4 (disp : BitVec 4)
  /-- `BVC disp4`, `43_flow_control.md` R200. -/
  | bvcD4 (disp : BitVec 4)
  /-- `BCS disp4`, `43_flow_control.md` R201. -/
  | bcsD4 (disp : BitVec 4)
  /-- `BCC disp4`, `43_flow_control.md` R202. -/
  | bccD4 (disp : BitVec 4)
  /-- `BEQ disp17`, `43_flow_control.md` R195. -/
  | beqD17 (disp : BitVec 17)
  /-- `BNE disp17`, `43_flow_control.md` R196. -/
  | bneD17 (disp : BitVec 17)
  /-- `BPL disp17`, `43_flow_control.md` R197. -/
  | bplD17 (disp : BitVec 17)
  /-- `BMI disp17`, `43_flow_control.md` R198. -/
  | bmiD17 (disp : BitVec 17)
  /-- `BVS disp17`, `43_flow_control.md` R199. -/
  | bvsD17 (disp : BitVec 17)
  /-- `BVC disp17`, `43_flow_control.md` R200. -/
  | bvcD17 (disp : BitVec 17)
  /-- `BCS disp17`, `43_flow_control.md` R201. -/
  | bcsD17 (disp : BitVec 17)
  /-- `BCC disp17`, `43_flow_control.md` R202. -/
  | bccD17 (disp : BitVec 17)
  /-- `BRA disp4`, `43_flow_control.md` R203. -/
  | braD4 (disp : BitVec 4)
  /-- `BRA disp17`, `43_flow_control.md` R203. -/
  | braD17 (disp : BitVec 17)
  /-- `RST`, `43_flow_control.md` R210. -/
  | rst
  /-- `NMI`, `43_flow_control.md` R211. -/
  | nmi
  /-- `IRQ`, `43_flow_control.md` R212. -/
  | irq
  /-- `BRK #const4`, `43_flow_control.md` R213. -/
  | brk (const : BitVec 4)
  /-- `PHP`, `44_stack.md` R231. -/
  | php
  /-- `PSH Ra`, `44_stack.md` R232. -/
  | psh (ra : RegNo)
  /-- `PLP`, `44_stack.md` R233. -/
  | plp
  /-- `POP Rt`, `44_stack.md` R234. -/
  | pop (rt : RegNo)
  /-- `SEP #mask7`, `45_status.md` R252. -/
  | sep (mask : BitVec 7)
  /-- `REP #mask7`, `45_status.md` R251. -/
  | rep (mask : BitVec 7)
  /-- `MVNB`, `46_string.md` R270. -/
  | mvnb
  /-- `MVPB`, `46_string.md` R271. -/
  | mvpb
  /-- `STSB`, `46_string.md` R272. -/
  | stsb
  /-- `CMPSB`, `46_string.md` R273. -/
  | cmpsb
  /-- `MVN`, `46_string.md` R264. -/
  | mvn
  /-- `MVP`, `46_string.md` R265. -/
  | mvp
  /-- `STS`, `46_string.md` R266. -/
  | sts
  /-- `CMPS`, `46_string.md` R267. -/
  | cmps
deriving DecidableEq, Repr

end Sys2Proof
end

