-- ==== Sys2Proof/Machine/Dispatch.lean ====
section
/-! DEFINITION. One arm per instruction (`00_scope.md` R14: execute its rule). -/

namespace Sys2Proof.Machine

def exec (i : Instr) (s : State) : Host.Outcome State Fault Refusal :=
  match i with
  | .addRR rt ra rb => Sys2Proof.Machine.execAddRR rt ra rb s
  | .addI9 rt ra imm => Sys2Proof.Machine.execAddI9 rt ra imm s
  | .addI23 rt ra imm => Sys2Proof.Machine.execAddI23 rt ra imm s
  | .addI36 rt ra imm => Sys2Proof.Machine.execAddI36 rt ra imm s
  | .cmpRR ra rb => Sys2Proof.Machine.execCmpRR ra rb s
  | .cmpI9 ra imm => Sys2Proof.Machine.execCmpI9 ra imm s
  | .cmpI23 ra imm => Sys2Proof.Machine.execCmpI23 ra imm s
  | .cmpI36 ra imm => Sys2Proof.Machine.execCmpI36 ra imm s
  | .subRR rt ra rb => Sys2Proof.Machine.execSubRR rt ra rb s
  | .subI9 rt ra imm => Sys2Proof.Machine.execSubI9 rt ra imm s
  | .subI23 rt ra imm => Sys2Proof.Machine.execSubI23 rt ra imm s
  | .subI36 rt ra imm => Sys2Proof.Machine.execSubI36 rt ra imm s
  | .bitRR ra rb => Sys2Proof.Machine.execBitRR ra rb s
  | .bitI9 ra imm => Sys2Proof.Machine.execBitI9 ra imm s
  | .bitI23 ra imm => Sys2Proof.Machine.execBitI23 ra imm s
  | .bitI36 ra imm => Sys2Proof.Machine.execBitI36 ra imm s
  | .andRR rt ra rb => Sys2Proof.Machine.execAndRR rt ra rb s
  | .andI9 rt ra imm => Sys2Proof.Machine.execAndI9 rt ra imm s
  | .andI23 rt ra imm => Sys2Proof.Machine.execAndI23 rt ra imm s
  | .andI36 rt ra imm => Sys2Proof.Machine.execAndI36 rt ra imm s
  | .orRR rt ra rb => Sys2Proof.Machine.execOrRR rt ra rb s
  | .orI9 rt ra imm => Sys2Proof.Machine.execOrI9 rt ra imm s
  | .orI23 rt ra imm => Sys2Proof.Machine.execOrI23 rt ra imm s
  | .orI36 rt ra imm => Sys2Proof.Machine.execOrI36 rt ra imm s
  | .eorRR rt ra rb => Sys2Proof.Machine.execEorRR rt ra rb s
  | .eorI9 rt ra imm => Sys2Proof.Machine.execEorI9 rt ra imm s
  | .eorI23 rt ra imm => Sys2Proof.Machine.execEorI23 rt ra imm s
  | .eorI36 rt ra imm => Sys2Proof.Machine.execEorI36 rt ra imm s
  | .ldRR rt ra rb => Sys2Proof.Machine.execLdRR rt ra rb s
  | .ldD9 rt ra disp => Sys2Proof.Machine.execLdD9 rt ra disp s
  | .ldD23 rt ra disp => Sys2Proof.Machine.execLdD23 rt ra disp s
  | .ldD36 rt ra disp => Sys2Proof.Machine.execLdD36 rt ra disp s
  | .ldb rt ra disp => Sys2Proof.Machine.execLdb rt ra disp s
  | .stRR rs ra rb => Sys2Proof.Machine.execStRR rs ra rb s
  | .stD9 rs ra disp => Sys2Proof.Machine.execStD9 rs ra disp s
  | .stD23 rs ra disp => Sys2Proof.Machine.execStD23 rs ra disp s
  | .stD36 rs ra disp => Sys2Proof.Machine.execStD36 rs ra disp s
  | .stb rs ra disp => Sys2Proof.Machine.execStb rs ra disp s
  | .aslRR rt ra rb => Sys2Proof.Machine.execAslRR rt ra rb s
  | .aslI6 rt ra count => Sys2Proof.Machine.execAslI6 rt ra count s
  | .rolRR rt ra rb => Sys2Proof.Machine.execRolRR rt ra rb s
  | .rolI6 rt ra count => Sys2Proof.Machine.execRolI6 rt ra count s
  | .lsrRR rt ra rb => Sys2Proof.Machine.execLsrRR rt ra rb s
  | .lsrI6 rt ra count => Sys2Proof.Machine.execLsrI6 rt ra count s
  | .rorRR rt ra rb => Sys2Proof.Machine.execRorRR rt ra rb s
  | .rorI6 rt ra count => Sys2Proof.Machine.execRorI6 rt ra count s
  | .jmpAbs addr => Sys2Proof.Machine.execJmpAbs addr s
  | .jsrAbs addr => Sys2Proof.Machine.execJsrAbs addr s
  | .jmpReg ra => Sys2Proof.Machine.execJmpReg ra s
  | .jsrReg ra => Sys2Proof.Machine.execJsrReg ra s
  | .rts => Sys2Proof.Machine.execRts s
  | .rti => Sys2Proof.Machine.execRti s
  | .pfi => Sys2Proof.Machine.execPfi s
  | .wai => Sys2Proof.Machine.execWai s
  | .stp => Sys2Proof.Machine.execStp s
  | .nop => Sys2Proof.Machine.execNop s
  | .beqD4 disp => Sys2Proof.Machine.execBeqD4 disp s
  | .bneD4 disp => Sys2Proof.Machine.execBneD4 disp s
  | .bplD4 disp => Sys2Proof.Machine.execBplD4 disp s
  | .bmiD4 disp => Sys2Proof.Machine.execBmiD4 disp s
  | .bvsD4 disp => Sys2Proof.Machine.execBvsD4 disp s
  | .bvcD4 disp => Sys2Proof.Machine.execBvcD4 disp s
  | .bcsD4 disp => Sys2Proof.Machine.execBcsD4 disp s
  | .bccD4 disp => Sys2Proof.Machine.execBccD4 disp s
  | .beqD17 disp => Sys2Proof.Machine.execBeqD17 disp s
  | .bneD17 disp => Sys2Proof.Machine.execBneD17 disp s
  | .bplD17 disp => Sys2Proof.Machine.execBplD17 disp s
  | .bmiD17 disp => Sys2Proof.Machine.execBmiD17 disp s
  | .bvsD17 disp => Sys2Proof.Machine.execBvsD17 disp s
  | .bvcD17 disp => Sys2Proof.Machine.execBvcD17 disp s
  | .bcsD17 disp => Sys2Proof.Machine.execBcsD17 disp s
  | .bccD17 disp => Sys2Proof.Machine.execBccD17 disp s
  | .braD4 disp => Sys2Proof.Machine.execBraD4 disp s
  | .braD17 disp => Sys2Proof.Machine.execBraD17 disp s
  | .rst => Sys2Proof.Machine.execRst s
  | .nmi => Sys2Proof.Machine.execNmi s
  | .irq => Sys2Proof.Machine.execIrq s
  | .brk const => Sys2Proof.Machine.execBrk const s
  | .php => Sys2Proof.Machine.execPhp s
  | .psh ra => Sys2Proof.Machine.execPsh ra s
  | .plp => Sys2Proof.Machine.execPlp s
  | .pop rt => Sys2Proof.Machine.execPop rt s
  | .sep mask => Sys2Proof.Machine.execSep mask s
  | .rep mask => Sys2Proof.Machine.execRep mask s
  | .mvnb => Sys2Proof.Machine.execMvnb s
  | .mvpb => Sys2Proof.Machine.execMvpb s
  | .stsb => Sys2Proof.Machine.execStsb s
  | .cmpsb => Sys2Proof.Machine.execCmpsb s
  | .mvn => Sys2Proof.Machine.execMvn s
  | .mvp => Sys2Proof.Machine.execMvp s
  | .sts => Sys2Proof.Machine.execSts s
  | .cmps => Sys2Proof.Machine.execCmps s

end Sys2Proof.Machine
end

