-- ==== Sys2Proof/WellFormed.lean ====
section
/-! DEFINITION. Which terms of `Instr` stand for an encoding. The field widths are in the types; what is
left to check is that SUB and AND name a target, since with the `Rt5` field 0 the same opcodes are CMP and
BIT (`30_encoding.md` R95). -/

namespace Sys2Proof

/-- SUB and AND have a target other than R0 (`30_encoding.md` R95); every other term is well-formed. -/
def Instr.wellFormed : Instr → Bool
  | .subRR rt _ _ | .subI9 rt _ _ | .subI23 rt _ _ | .subI36 rt _ _ => rt != 0#5
  | .andRR rt _ _ | .andI9 rt _ _ | .andI23 rt _ _ | .andI36 rt _ _ => rt != 0#5
  | .addRR _ _ _ | .addI9 _ _ _ | .addI23 _ _ _ | .addI36 _ _ _ | .cmpRR _ _ | .cmpI9 _ _ | .cmpI23 _ _
  | .cmpI36 _ _ | .bitRR _ _ | .bitI9 _ _ | .bitI23 _ _ | .bitI36 _ _ | .orRR _ _ _ | .orI9 _ _ _
  | .orI23 _ _ _ | .orI36 _ _ _ | .eorRR _ _ _ | .eorI9 _ _ _ | .eorI23 _ _ _ | .eorI36 _ _ _ | .ldRR _ _ _
  | .ldD9 _ _ _ | .ldD23 _ _ _ | .ldD36 _ _ _ | .ldb _ _ _ | .stRR _ _ _ | .stD9 _ _ _ | .stD23 _ _ _
  | .stD36 _ _ _ | .stb _ _ _ | .aslRR _ _ _ | .aslI6 _ _ _ | .rolRR _ _ _ | .rolI6 _ _ _ | .lsrRR _ _ _
  | .lsrI6 _ _ _ | .rorRR _ _ _ | .rorI6 _ _ _ | .jmpAbs _ | .jsrAbs _ | .jmpReg _ | .jsrReg _ | .rts | .rti
  | .pfi | .wai | .stp | .nop | .beqD4 _ | .bneD4 _ | .bplD4 _ | .bmiD4 _ | .bvsD4 _ | .bvcD4 _ | .bcsD4 _
  | .bccD4 _ | .beqD17 _ | .bneD17 _ | .bplD17 _ | .bmiD17 _ | .bvsD17 _ | .bvcD17 _ | .bcsD17 _ | .bccD17 _
  | .braD4 _ | .braD17 _ | .rst | .nmi | .irq | .brk _ | .php | .psh _ | .plp | .pop _ | .sep _ | .rep _
  | .mvnb | .mvpb | .stsb | .cmpsb | .mvn | .mvp | .sts | .cmps => true

end Sys2Proof
end

