-- ==== Sys2Proof/Decode.lean ====
section
/-! DEFINITION. Decoding and encoding (`30_encoding.md`). Decoding is total on any bytes and rejects by
name; the encoder is written from the same format tables. -/

namespace Sys2Proof

/-- Why bytes are no instruction. `illegalOpcode` is the spec's own name for an unassigned encoding
(`30_encoding.md` R98); `truncated` says that the list ends before the instruction does, which a fetch
from memory never meets. -/
inductive DecodeError where
  | illegalOpcode
  | truncated
deriving DecidableEq, Repr

/-- `len` bits of the instruction from bit `lo` upward (`00_scope.md` R9). -/
def field (w : Word) (lo len : Nat) : BitVec len :=
  w.extractLsb' lo len

/-! ## Lengths -/

/-- The length of an instruction in bytes by its opcode, bits 5..0 of its first byte; `none` for the 20
unassigned opcodes (`30_encoding.md` R82). -/
def opcodeLength (opcode : BitVec 6) : Option Nat :=
  match opcode.toNat with
  | 0o05 | 0o24 | 0o25 | 0o34 | 0o44 | 0o45 | 0o46 | 0o54 | 0o56 | 0o65 | 0o66 | 0o75 | 0o76 => some 1
  | 0o00 | 0o06 | 0o10 | 0o15 | 0o16 | 0o26 | 0o30 | 0o35 | 0o36 | 0o40 | 0o50 | 0o60 | 0o70 => some 2
  | 0o01 | 0o11 | 0o31 | 0o41 | 0o51 | 0o61 | 0o71 => some 3
  | 0o02 | 0o04 | 0o12 | 0o14 | 0o32 | 0o42 | 0o52 | 0o62 | 0o64 | 0o72 | 0o74 => some 4
  | _ => none

/-- The length of an instruction in bytes (`30_encoding.md` R82, the Len column of R96). -/
def Instr.length : Instr → Nat
  | .jmpReg _ | .jsrReg _ | .rts | .rti | .pfi | .wai | .stp | .nop | .beqD4 _ | .bneD4 _ | .bplD4 _ | .bmiD4 _
  | .bvsD4 _ | .bvcD4 _ | .bcsD4 _ | .bccD4 _ | .braD4 _ | .rst | .nmi | .irq | .brk _ | .php | .psh _ | .plp | .pop _
  | .sep _ | .rep _ | .mvnb | .mvpb | .stsb | .cmpsb | .mvn | .mvp | .sts | .cmps => 1
  | .addRR _ _ _ | .addI9 _ _ _ | .cmpRR _ _ | .cmpI9 _ _ | .subRR _ _ _ | .subI9 _ _ _ | .bitRR _ _ | .bitI9 _ _
  | .andRR _ _ _ | .andI9 _ _ _ | .orRR _ _ _ | .orI9 _ _ _ | .eorRR _ _ _ | .eorI9 _ _ _ | .ldRR _ _ _ | .ldD9 _ _ _
  | .stRR _ _ _ | .stD9 _ _ _ | .aslRR _ _ _ | .aslI6 _ _ _ | .rolRR _ _ _ | .rolI6 _ _ _ | .lsrRR _ _ _
  | .lsrI6 _ _ _ | .rorRR _ _ _ | .rorI6 _ _ _ | .beqD17 _ | .bneD17 _ | .bplD17 _ | .bmiD17 _ | .bvsD17 _ | .bvcD17 _
  | .bcsD17 _ | .bccD17 _ | .braD17 _ => 2
  | .addI23 _ _ _ | .cmpI23 _ _ | .subI23 _ _ _ | .bitI23 _ _ | .andI23 _ _ _ | .orI23 _ _ _ | .eorI23 _ _ _
  | .ldD23 _ _ _ | .stD23 _ _ _ => 3
  | .addI36 _ _ _ | .cmpI36 _ _ | .subI36 _ _ _ | .bitI36 _ _ | .andI36 _ _ _ | .orI36 _ _ _ | .eorI36 _ _ _
  | .ldD36 _ _ _ | .ldb _ _ _ | .stD36 _ _ _ | .stb _ _ _ | .jmpAbs _ | .jsrAbs _ => 4

/-! ## The decoder -/

/-- The instruction of ASL by bit 25 (`30_encoding.md` R94, R83, R87; `42_shift.md` R160). -/
def decodeAsl (w : Word) : Instr :=
  if w.getLsbD 25 then .aslI6 (field w 6 5) (field w 11 5) (field w 16 6)
  else .aslRR (field w 6 5) (field w 11 5) (field w 16 5)

/-- The instruction of ROL by bit 25 (`30_encoding.md` R94, R83, R87; `42_shift.md` R160). -/
def decodeRol (w : Word) : Instr :=
  if w.getLsbD 25 then .rolI6 (field w 6 5) (field w 11 5) (field w 16 6)
  else .rolRR (field w 6 5) (field w 11 5) (field w 16 5)

/-- The instruction of LSR by bit 25 (`30_encoding.md` R94, R83, R87; `42_shift.md` R160). -/
def decodeLsr (w : Word) : Instr :=
  if w.getLsbD 25 then .lsrI6 (field w 6 5) (field w 11 5) (field w 16 6)
  else .lsrRR (field w 6 5) (field w 11 5) (field w 16 5)

/-- The instruction of ROR by bit 25 (`30_encoding.md` R94, R83, R87; `42_shift.md` R160). -/
def decodeRor (w : Word) : Instr :=
  if w.getLsbD 25 then .rorI6 (field w 6 5) (field w 11 5) (field w 16 6)
  else .rorRR (field w 6 5) (field w 11 5) (field w 16 5)

/-- The conditional branches with a 4-bit displacement, by condition code (`43_flow_control.md` R192). -/
def decodeBranch4 (w : Word) : Instr :=
  match (field w 6 3).toNat with
  | 0 => .beqD4 (field w 9 4)
  | 1 => .bneD4 (field w 9 4)
  | 2 => .bplD4 (field w 9 4)
  | 3 => .bmiD4 (field w 9 4)
  | 4 => .bvsD4 (field w 9 4)
  | 5 => .bvcD4 (field w 9 4)
  | 6 => .bcsD4 (field w 9 4)
  | _ => .bccD4 (field w 9 4)

/-- The conditional branches with a 17-bit displacement, by condition code (`43_flow_control.md` R193). -/
def decodeBranch17 (w : Word) : Instr :=
  match (field w 6 3).toNat with
  | 0 => .beqD17 (field w 9 17)
  | 1 => .bneD17 (field w 9 17)
  | 2 => .bplD17 (field w 9 17)
  | 3 => .bmiD17 (field w 9 17)
  | 4 => .bvsD17 (field w 9 17)
  | 5 => .bvcD17 (field w 9 17)
  | 6 => .bcsD17 (field w 9 17)
  | _ => .bccD17 (field w 9 17)

/-- Opcode 24o by function code (`30_encoding.md` R96); 3 and 5 are unassigned (R98). -/
def decodeReturnGroup (w : Word) : Except DecodeError Instr :=
  match (field w 6 3).toNat with
  | 0 => .ok .rts
  | 1 => .ok .rti
  | 2 => .ok .pfi
  | 4 => .ok .wai
  | 6 => .ok .stp
  | 7 => .ok .nop
  | _ => .error .illegalOpcode

/-- Opcode 34o by function code (`30_encoding.md` R96); 4 to 7 are unassigned (R98). -/
def decodeTrapGroup (w : Word) : Except DecodeError Instr :=
  match (field w 6 3).toNat with
  | 0 => .ok .rst
  | 1 => .ok .nmi
  | 2 => .ok .irq
  | 3 => .ok (.brk (field w 9 4))
  | _ => .error .illegalOpcode

/-- Opcode 45o by function code (`30_encoding.md` R96). -/
def decodeString (w : Word) : Instr :=
  match (field w 6 3).toNat with
  | 0 => .mvnb
  | 1 => .mvpb
  | 2 => .stsb
  | 3 => .cmpsb
  | 4 => .mvn
  | 5 => .mvp
  | 6 => .sts
  | _ => .cmps

/-- The instruction in an instruction word whose bits above the instruction's length are not looked at
(`30_encoding.md` R96, in its order: CMP before SUB, BIT before AND, R95). `swap` is `cfg.swap_rol_lsr`
(`42_shift.md` R162). -/
def decodeWord (swap : Bool) (w : Word) : Except DecodeError Instr :=
  let rt : RegNo := field w 6 5
  let ra : RegNo := field w 11 5
  match (field w 0 6).toNat with
  | 0o00 => .ok (if w.getLsbD 25 then .addI9 rt ra (field w 16 9) else .addRR rt ra (field w 16 5))
  | 0o01 => .ok (.addI23 rt ra (field w 16 23))
  | 0o02 => .ok (.addI36 rt ra (field w 16 36))
  | 0o10 => .ok (if w.getLsbD 25
      then (if rt = 0#5 then .cmpI9 ra (field w 16 9) else .subI9 rt ra (field w 16 9))
      else (if rt = 0#5 then .cmpRR ra (field w 16 5) else .subRR rt ra (field w 16 5)))
  | 0o11 => .ok (if rt = 0#5 then .cmpI23 ra (field w 16 23) else .subI23 rt ra (field w 16 23))
  | 0o12 => .ok (if rt = 0#5 then .cmpI36 ra (field w 16 36) else .subI36 rt ra (field w 16 36))
  | 0o30 => .ok (if w.getLsbD 25
      then (if rt = 0#5 then .bitI9 ra (field w 16 9) else .andI9 rt ra (field w 16 9))
      else (if rt = 0#5 then .bitRR ra (field w 16 5) else .andRR rt ra (field w 16 5)))
  | 0o31 => .ok (if rt = 0#5 then .bitI23 ra (field w 16 23) else .andI23 rt ra (field w 16 23))
  | 0o32 => .ok (if rt = 0#5 then .bitI36 ra (field w 16 36) else .andI36 rt ra (field w 16 36))
  | 0o40 => .ok (if w.getLsbD 25 then .orI9 rt ra (field w 16 9) else .orRR rt ra (field w 16 5))
  | 0o41 => .ok (.orI23 rt ra (field w 16 23))
  | 0o42 => .ok (.orI36 rt ra (field w 16 36))
  | 0o50 => .ok (if w.getLsbD 25 then .eorI9 rt ra (field w 16 9) else .eorRR rt ra (field w 16 5))
  | 0o51 => .ok (.eorI23 rt ra (field w 16 23))
  | 0o52 => .ok (.eorI36 rt ra (field w 16 36))
  | 0o60 => .ok (if w.getLsbD 25 then .ldD9 rt ra (field w 16 9) else .ldRR rt ra (field w 16 5))
  | 0o61 => .ok (.ldD23 rt ra (field w 16 23))
  | 0o62 => .ok (.ldD36 rt ra (field w 16 36))
  | 0o70 => .ok (if w.getLsbD 25 then .stD9 rt ra (field w 16 9) else .stRR rt ra (field w 16 5))
  | 0o71 => .ok (.stD23 rt ra (field w 16 23))
  | 0o72 => .ok (.stD36 rt ra (field w 16 36))
  | 0o64 => .ok (.ldb rt ra (field w 16 36))
  | 0o74 => .ok (.stb rt ra (field w 16 36))
  | 0o06 => .ok (decodeAsl w)
  | 0o16 => .ok (if swap then decodeLsr w else decodeRol w)
  | 0o26 => .ok (if swap then decodeRol w else decodeLsr w)
  | 0o36 => .ok (decodeRor w)
  | 0o04 => .ok (.jmpAbs (field w 6 46))
  | 0o14 => .ok (.jsrAbs (field w 6 46))
  | 0o44 => .ok (.jmpReg (field w 6 5))
  | 0o54 => .ok (.jsrReg (field w 6 5))
  | 0o76 => .ok (.psh (field w 6 5))
  | 0o66 => .ok (.pop (field w 6 5))
  | 0o75 => .ok .php
  | 0o65 => .ok .plp
  | 0o46 => .ok (.sep (field w 6 7))
  | 0o56 => .ok (.rep (field w 6 7))
  | 0o24 => decodeReturnGroup w
  | 0o34 => decodeTrapGroup w
  | 0o45 => .ok (decodeString w)
  | 0o05 => .ok (decodeBranch4 w)
  | 0o15 => .ok (decodeBranch17 w)
  | 0o25 => if field w 6 3 = 0#3 then .ok (.braD4 (field w 9 4)) else .error .illegalOpcode
  | 0o35 => if field w 6 3 = 0#3 then .ok (.braD17 (field w 9 17)) else .error .illegalOpcode
  | _ => .error .illegalOpcode

/-- The word that bytes make, the first one lowest (`20_memory.md` R56). -/
def joinBytes : List Byte → Word
  | [] => 0#52
  | b :: bs => b.zeroExtend 52 ||| (joinBytes bs <<< 13)

/-- Decoding of bytes, lowest address first: the length from the first byte, then the fields, from that
many bytes and no more (`30_encoding.md` R81). -/
def decode (swap : Bool) (bytes : List Byte) : Except DecodeError Instr :=
  match bytes with
  | [] => .error .truncated
  | first :: _ =>
    match opcodeLength (first.extractLsb' 0 6) with
    | none => .error .illegalOpcode
    | some len =>
      if bytes.length < len then .error .truncated else decodeWord swap (joinBytes (bytes.take len))

/-! ## The encoder -/

/-- Format RR (`30_encoding.md` R83), unused bits 0 (R99). -/
def encodeRR (opcode : BitVec 6) (rt ra rb : RegNo) : Word :=
  0#26 ++ 0#1 ++ 0#4 ++ rb ++ ra ++ rt ++ opcode

/-- Format RI9 (`30_encoding.md` R84). -/
def encodeRI9 (opcode : BitVec 6) (rt ra : RegNo) (imm : BitVec 9) : Word :=
  0#26 ++ 1#1 ++ imm ++ ra ++ rt ++ opcode

/-- Format RI23 (`30_encoding.md` R85). -/
def encodeRI23 (opcode : BitVec 6) (rt ra : RegNo) (imm : BitVec 23) : Word :=
  0#13 ++ imm ++ ra ++ rt ++ opcode

/-- Format RI36 (`30_encoding.md` R86). -/
def encodeRI36 (opcode : BitVec 6) (rt ra : RegNo) (imm : BitVec 36) : Word :=
  imm ++ ra ++ rt ++ opcode

/-- Format SHI (`30_encoding.md` R87), unused bits 0 (R99). -/
def encodeSHI (opcode : BitVec 6) (rt ra : RegNo) (count : BitVec 6) : Word :=
  0#26 ++ 1#1 ++ 0#3 ++ count ++ ra ++ rt ++ opcode

/-- Format J46 (`30_encoding.md` R88). -/
def encodeJ46 (opcode : BitVec 6) (addr : BitVec 46) : Word :=
  addr ++ opcode

/-- Format R1 (`30_encoding.md` R89), unused bits 0 (R99). -/
def encodeR1 (opcode : BitVec 6) (r : RegNo) : Word :=
  0#39 ++ 0#2 ++ r ++ opcode

/-- Format F3 (`30_encoding.md` R90). -/
def encodeF3 (opcode : BitVec 6) (fn : BitVec 3) (high : BitVec 4) : Word :=
  0#39 ++ high ++ fn ++ opcode

/-- Format B17 (`30_encoding.md` R91). -/
def encodeB17 (opcode : BitVec 6) (cond : BitVec 3) (disp : BitVec 17) : Word :=
  0#26 ++ disp ++ cond ++ opcode

/-- Format M7 (`30_encoding.md` R92). -/
def encodeM7 (opcode : BitVec 6) (mask : BitVec 7) : Word :=
  0#39 ++ mask ++ opcode

/-- The opcode of ROL (`42_shift.md` R162). -/
def rolOpcode (swap : Bool) : BitVec 6 :=
  if swap then 0o26 else 0o16

/-- The opcode of LSR (`42_shift.md` R162). -/
def lsrOpcode (swap : Bool) : BitVec 6 :=
  if swap then 0o16 else 0o26

/-- The instruction word of an instruction (`30_encoding.md` R96), zero above its length. -/
def encodeWord (swap : Bool) : Instr → Word
  | .addRR rt ra rb => encodeRR 0o00 rt ra rb
  | .addI9 rt ra imm => encodeRI9 0o00 rt ra imm
  | .addI23 rt ra imm => encodeRI23 0o01 rt ra imm
  | .addI36 rt ra imm => encodeRI36 0o02 rt ra imm
  | .cmpRR ra rb => encodeRR 0o10 0 ra rb
  | .cmpI9 ra imm => encodeRI9 0o10 0 ra imm
  | .cmpI23 ra imm => encodeRI23 0o11 0 ra imm
  | .cmpI36 ra imm => encodeRI36 0o12 0 ra imm
  | .subRR rt ra rb => encodeRR 0o10 rt ra rb
  | .subI9 rt ra imm => encodeRI9 0o10 rt ra imm
  | .subI23 rt ra imm => encodeRI23 0o11 rt ra imm
  | .subI36 rt ra imm => encodeRI36 0o12 rt ra imm
  | .bitRR ra rb => encodeRR 0o30 0 ra rb
  | .bitI9 ra imm => encodeRI9 0o30 0 ra imm
  | .bitI23 ra imm => encodeRI23 0o31 0 ra imm
  | .bitI36 ra imm => encodeRI36 0o32 0 ra imm
  | .andRR rt ra rb => encodeRR 0o30 rt ra rb
  | .andI9 rt ra imm => encodeRI9 0o30 rt ra imm
  | .andI23 rt ra imm => encodeRI23 0o31 rt ra imm
  | .andI36 rt ra imm => encodeRI36 0o32 rt ra imm
  | .orRR rt ra rb => encodeRR 0o40 rt ra rb
  | .orI9 rt ra imm => encodeRI9 0o40 rt ra imm
  | .orI23 rt ra imm => encodeRI23 0o41 rt ra imm
  | .orI36 rt ra imm => encodeRI36 0o42 rt ra imm
  | .eorRR rt ra rb => encodeRR 0o50 rt ra rb
  | .eorI9 rt ra imm => encodeRI9 0o50 rt ra imm
  | .eorI23 rt ra imm => encodeRI23 0o51 rt ra imm
  | .eorI36 rt ra imm => encodeRI36 0o52 rt ra imm
  | .ldRR rt ra rb => encodeRR 0o60 rt ra rb
  | .ldD9 rt ra disp => encodeRI9 0o60 rt ra disp
  | .ldD23 rt ra disp => encodeRI23 0o61 rt ra disp
  | .ldD36 rt ra disp => encodeRI36 0o62 rt ra disp
  | .ldb rt ra disp => encodeRI36 0o64 rt ra disp
  | .stRR rs ra rb => encodeRR 0o70 rs ra rb
  | .stD9 rs ra disp => encodeRI9 0o70 rs ra disp
  | .stD23 rs ra disp => encodeRI23 0o71 rs ra disp
  | .stD36 rs ra disp => encodeRI36 0o72 rs ra disp
  | .stb rs ra disp => encodeRI36 0o74 rs ra disp
  | .aslRR rt ra rb => encodeRR 0o06 rt ra rb
  | .aslI6 rt ra count => encodeSHI 0o06 rt ra count
  | .rolRR rt ra rb => encodeRR (rolOpcode swap) rt ra rb
  | .rolI6 rt ra count => encodeSHI (rolOpcode swap) rt ra count
  | .lsrRR rt ra rb => encodeRR (lsrOpcode swap) rt ra rb
  | .lsrI6 rt ra count => encodeSHI (lsrOpcode swap) rt ra count
  | .rorRR rt ra rb => encodeRR 0o36 rt ra rb
  | .rorI6 rt ra count => encodeSHI 0o36 rt ra count
  | .jmpAbs addr => encodeJ46 0o04 addr
  | .jsrAbs addr => encodeJ46 0o14 addr
  | .jmpReg ra => encodeR1 0o44 ra
  | .jsrReg ra => encodeR1 0o54 ra
  | .rts => encodeF3 0o24 0 0
  | .rti => encodeF3 0o24 1 0
  | .pfi => encodeF3 0o24 2 0
  | .wai => encodeF3 0o24 4 0
  | .stp => encodeF3 0o24 6 0
  | .nop => encodeF3 0o24 7 0
  | .beqD4 disp => encodeF3 0o05 0 disp
  | .bneD4 disp => encodeF3 0o05 1 disp
  | .bplD4 disp => encodeF3 0o05 2 disp
  | .bmiD4 disp => encodeF3 0o05 3 disp
  | .bvsD4 disp => encodeF3 0o05 4 disp
  | .bvcD4 disp => encodeF3 0o05 5 disp
  | .bcsD4 disp => encodeF3 0o05 6 disp
  | .bccD4 disp => encodeF3 0o05 7 disp
  | .beqD17 disp => encodeB17 0o15 0 disp
  | .bneD17 disp => encodeB17 0o15 1 disp
  | .bplD17 disp => encodeB17 0o15 2 disp
  | .bmiD17 disp => encodeB17 0o15 3 disp
  | .bvsD17 disp => encodeB17 0o15 4 disp
  | .bvcD17 disp => encodeB17 0o15 5 disp
  | .bcsD17 disp => encodeB17 0o15 6 disp
  | .bccD17 disp => encodeB17 0o15 7 disp
  | .braD4 disp => encodeF3 0o25 0 disp
  | .braD17 disp => encodeB17 0o35 0 disp
  | .rst => encodeF3 0o34 0 0
  | .nmi => encodeF3 0o34 1 0
  | .irq => encodeF3 0o34 2 0
  | .brk const => encodeF3 0o34 3 const
  | .php => encodeM7 0o75 0
  | .psh ra => encodeR1 0o76 ra
  | .plp => encodeM7 0o65 0
  | .pop rt => encodeR1 0o66 rt
  | .sep mask => encodeM7 0o46 mask
  | .rep mask => encodeM7 0o56 mask
  | .mvnb => encodeF3 0o45 0 0
  | .mvpb => encodeF3 0o45 1 0
  | .stsb => encodeF3 0o45 2 0
  | .cmpsb => encodeF3 0o45 3 0
  | .mvn => encodeF3 0o45 4 0
  | .mvp => encodeF3 0o45 5 0
  | .sts => encodeF3 0o45 6 0
  | .cmps => encodeF3 0o45 7 0

/-- The first `n` bytes of a word, lowest first (`20_memory.md` R56). -/
def splitBytes : Nat → Word → List Byte
  | 0, _ => []
  | n + 1, w => w.extractLsb' 0 13 :: splitBytes n (w >>> 13)

/-- The bytes of an instruction, lowest address first (`30_encoding.md` R80, `20_memory.md` R56). -/
def encode (swap : Bool) (i : Instr) : List Byte :=
  splitBytes i.length (encodeWord swap i)

/-- The instruction the decoder reads from an instruction whose bits, numbered as
`spec/opcode_table.json` numbers them, are `w`. Bit 13k is the least significant bit of byte k
(`30_encoding.md` R80), so four bytes hold every instruction, and the bits the table gives no row are 0
in `w` (log entry 32). -/
def decodeTableWord (_nbits w : Nat) : Option Instr :=
  (decode Config.default.swapRolLsr (splitBytes 4 (BitVec.ofNat 52 w))).toOption

end Sys2Proof
end

