-- ==== Sys2Proof/Machine/Fetch.lean ====
section
/-! DEFINITION. Fetching the instruction at pc (`30_encoding.md` R81, `20_memory.md` R56, R70). -/

namespace Sys2Proof.Machine

/-- What a fetch finds. -/
inductive Fetched where
  | instruction (i : Instr)
  | fault (f : Fault)
  | refused (r : Refusal)
deriving DecidableEq, Repr

/-- The space that instructions are fetched from (`20_memory.md` R51). -/
def State.fetchMemory (s : State) : Memory :=
  if s.cfg.unifiedMemory then s.mem else s.code

/-- Whether a fetch from a byte is unspecified, because the program has stored to it since reset
(`20_memory.md` R70). A store never reaches a code space of its own. -/
def State.staleByte (s : State) (a : Word) : Bool :=
  s.cfg.unifiedMemory && !s.cfg.ifetchCoherent && s.written.contains a.toNat

/-- Why the fetch of one byte stops, if it does. A window of `cfg.memmap` covers the code space of
`cfg.unified_memory` = false as it covers memory (DESIGN CHOICE, log entry 44). -/
def State.fetchStop (s : State) (a : Word) : Option Fetched :=
  if !plainByte s.cfg a then some (.refused .notPlainMemory)
  else if s.staleByte a then some (.fault .fetchFromWritten)
  else none

/-- Why the fetch of `n` bytes from an address stops, if it does, by the first byte that stops it. -/
def State.fetchStops (s : State) (a : Word) : Nat → Option Fetched
  | 0 => none
  | n + 1 =>
    match s.fetchStop a with
    | some stop => some stop
    | none => s.fetchStops (a + 1#52) n

/-- The fetch at pc: the first byte gives the length, then that many bytes are read and decoded
(`30_encoding.md` R81). -/
def State.fetch (s : State) : Fetched :=
  match s.fetchStop s.pc with
  | some stop => stop
  | none =>
    match opcodeLength ((byteAt s.fetchMemory s.pc.toNat).extractLsb' 0 6) with
    | none => .fault .illegalOpcode
    | some len =>
      match s.fetchStops s.pc len with
      | some stop => stop
      | none =>
        match decode s.cfg.swapRolLsr (bytesFrom s.fetchMemory s.pc len) with
        | .ok i => .instruction i
        | .error _ => .fault .illegalOpcode

/-- Bytes placed in memory from an address upward by the environment, not by the program. -/
def placeBytes (m : Memory) (a : Word) : List Byte → Memory
  | [] => m
  | b :: bs => placeBytes (setByteAt m a.toNat b) (a + 1#52) bs

/-- The address is one of the `n` from `a` upward, modulo 2^52. -/
def inSpan (a : Word) (n : Nat) (x : Nat) : Bool :=
  decide ((BitVec.ofNat 52 x - a).toNat < n) && decide (x < 2 ^ 52)

/-- Four bytes placed where the next fetch reads, no longer counted as stored to by the program. -/
def State.placeAtPc (s : State) (w : Word) : State :=
  let bytes := splitBytes 4 w
  let written := s.written.filter fun x => !inSpan s.pc 4 x
  if s.cfg.unifiedMemory then { s with mem := placeBytes s.mem s.pc bytes, written := written }
  else { s with code := placeBytes s.code s.pc bytes }

end Sys2Proof.Machine
end

