-- ==== Sys2Proof/Machine/Step.lean ====
section
/-! DEFINITION. One step of the machine (`00_scope.md` R14): the boundary, then the fetch, then the
instruction. -/

namespace Sys2Proof.Machine

/-- Fetch and execute the instruction at pc (`00_scope.md` R14). -/
def State.fetchAndExecute (s : State) : Host.Outcome State Fault Refusal :=
  match s.fetch with
  | .instruction i => exec i s
  | .fault f => .fault f
  | .refused r => .refused r

/-- One step (`00_scope.md` R14, `60_exceptions.md` R330). -/
def step (s : State) : Host.Outcome State Fault Refusal :=
  match s.boundary with
  | .trap kind => takeTrap kind s.pc s.takeRequests
  | .idle => .next s.takeRequests
  | .wake => .next s.takeRequests.wake
  | .execute => s.takeRequests.fetchAndExecute

/-- `s` with the instruction whose bits are `w` placed at pc, the core running, and no request at the next
boundary, so that the next step runs that instruction (log entry 29). -/
def State.withFetchWord (s : State) (_nbits w : Nat) : State :=
  { s.placeAtPc (BitVec.ofNat 52 w) with
    run := .running
    inputs :=
      if boundaryAction s.requests .running s.sr.i = .execute then s.inputs else Requests.quiet :: s.inputs }

end Sys2Proof.Machine
end

