-- ==== Sys2Proof/Machine/MicroOp.lean ====
section
/-! DEFINITION. The micro-op engine of the appendix (`49_microops.md`, informative): the dispatch on an
instruction's first nine bits, the format of a micro-instruction, its selectors and opcodes, and the five lists
the source prints, with an engine that runs them. The machine does not use it: it is a second way to run BRK,
MVN, MVP, STS and CMPS (log entry 35). -/

namespace Sys2Proof.Machine

/-! ## The 24-bit micro-instruction -/

/-- The fields of a micro-instruction, most significant first (`49_microops.md` R291). -/
structure MicroWord where
  fl : BitVec 2
  opcode : BitVec 6
  cnst : BitVec 4
  src2 : BitVec 4
  src1 : BitVec 4
  tgt : BitVec 4
deriving DecidableEq, Repr

/-- The fields read from 24 bits (`49_microops.md` R291). -/
def microWordOfBits (w : BitVec 24) : MicroWord :=
  { fl := w.extractLsb' 22 2, opcode := w.extractLsb' 16 6, cnst := w.extractLsb' 12 4, src2 := w.extractLsb' 8 4,
    src1 := w.extractLsb' 4 4, tgt := w.extractLsb' 0 4 }

/-- The 24 bits of the fields (`49_microops.md` R291). -/
def microWordToBits (m : MicroWord) : BitVec 24 :=
  m.fl ++ m.opcode ++ m.cnst ++ m.src2 ++ m.src1 ++ m.tgt

/-- Whether a micro-instruction is the first, and whether it is the last, of its list (`49_microops.md` R292). -/
def microFirstLast (fl : BitVec 2) : Bool × Bool :=
  (fl.getLsbD 0, fl.getLsbD 1)

/-- What an operand selector can name (`49_microops.md` R293 to R295); `registerField lo` is the register whose
number stands in bits `lo + 4` to `lo` of the instruction. -/
inductive MicroOperand where
  | zero | registerField (lo : Nat) | acc | x | y | sp | tmp1 | tmp2 | sr | pc | pcPlus1 | pcPlus4 | one | minusOne
deriving DecidableEq, Repr

/-- The selector values that Tgt, Src1 and Src2 share (`49_microops.md` R293 to R295). -/
def microCommonOperand (k : Nat) : Option MicroOperand :=
  match k with
  | 0 => some .zero
  | 2 => some .acc
  | 3 => some .x
  | 4 => some .y
  | 5 => some .sp
  | 6 => some .tmp1
  | 7 => some .tmp2
  | 8 => some .sr
  | _ => none

/-- `Tgt4`; 12 to 15 are not listed (`49_microops.md` R293). -/
def microTarget (k : BitVec 4) : Option MicroOperand :=
  match k.toNat with
  | 1 => some (.registerField 6)
  | 9 => some .pc
  | 10 => some .pcPlus1
  | 11 => some .pcPlus4
  | other => microCommonOperand other

/-- `Src1`; 9 to 15 are not listed (`49_microops.md` R294). -/
def microSource1 (k : BitVec 4) : Option MicroOperand :=
  match k.toNat with
  | 1 => some (.registerField 11)
  | other => microCommonOperand other

/-- `Src2`; 11 has an empty meaning, 10, 12, 13 and 14 are not listed; the register number of value 1 is bits
20..16 (`49_microops.md` R295, `90_conflicts.md` C2). -/
def microSource2 (k : BitVec 4) : Option MicroOperand :=
  match k.toNat with
  | 1 => some (.registerField 16)
  | 9 => some .one
  | 15 => some .minusOne
  | other => microCommonOperand other

/-- What a constant selector names: a number or a field of the instruction. -/
inductive MicroConstant where
  | value (k : Int)
  | instructionBits (hi lo : Nat)
deriving DecidableEq, Repr

/-- `Cnst4`; 12 is not listed; value 8 is the field Imm9, bits 24..16 (`49_microops.md` R296,
`90_conflicts.md` C2). -/
def microConstant (k : BitVec 4) : Option MicroConstant :=
  match k.toNat with
  | 5 => some (.instructionBits 25 9)
  | 6 => some (.instructionBits 12 9)
  | 7 => some (.instructionBits 51 6)
  | 8 => some (.instructionBits 24 16)
  | 9 => some (.instructionBits 38 16)
  | 10 => some (.instructionBits 51 16)
  | 11 => some (.instructionBits 12 6)
  | 12 => none
  | 13 => some (.value (-3))
  | 14 => some (.value (-2))
  | 15 => some (.value (-1))
  | other => some (.value other)

/-- The named micro-op opcodes, a trailing `F` for the source's flag-updating "." (`49_microops.md` R299). -/
inductive MicroOpcode where
  | add | addF | sub | subF | andF | orF | eorF | ld | ldF | lb | lbF | st | stb | aslF | rolF | lsrF | rorF
  | bra | beq | bne | bmi | bpl | bcs | bcc | bvs | bvc | sep | rep | jmp | stp | wai
deriving DecidableEq, Repr

/-- The opcodes in the order of their numbers, 0 to 30; 31 has no name and 32 to 63 are not listed
(`49_microops.md` R299). -/
def microOpcodes : List MicroOpcode :=
  [.add, .addF, .sub, .subF, .andF, .orF, .eorF, .ld, .ldF, .lb, .lbF, .st, .stb, .aslF, .rolF, .lsrF, .rorF,
   .bra, .beq, .bne, .bmi, .bpl, .bcs, .bcc, .bvs, .bvc, .sep, .rep, .jmp, .stp, .wai]

/-- The name of an opcode number. -/
def microOpcode (k : BitVec 6) : Option MicroOpcode :=
  microOpcodes[k.toNat]?

/-- The flags an opcode updates, `some []` where the source prints "-"; `none` where its cell is empty in the
source, which says nothing of the flags then (`49_microops.md` R299). -/
def MicroOpcode.flags : MicroOpcode → Option (List Flag)
  | .addF | .subF => some [.c, .v, .n, .z]
  | .andF | .orF | .eorF | .ldF | .lbF => some [.n, .z]
  | .aslF | .rolF | .lsrF | .rorF => some [.c, .n, .z]
  | .sep | .rep => some [.c, .v, .n, .z, .i, .u]
  | .add | .sub | .ld | .lb | .st | .stb | .bra | .beq | .bne | .bmi | .bpl | .bcs | .bcc | .bvs | .bvc => some []
  | .jmp | .stp | .wai => none

/-! ## The printed lists -/

/-- An address in the lists: a register in brackets, or a literal. -/
inductive MicroAddress where
  | reg (r : MicroOperand) | literal (a : Word)
deriving DecidableEq, Repr

/-- One line of a printed list (`49_microops.md` R297, R298): its target first, but for a store, whose data comes
first and is one of the operands of the target selector (R293); a branch names the address it goes to. -/
inductive MicroOp where
  | add (target source : MicroOperand) (k : Word)
  | sub (target source : MicroOperand) (k : Word)
  | ld (target : MicroOperand) (address : MicroAddress)
  | st (data : MicroOperand) (address : MicroAddress)
  | sepI
  | cmp (a b : MicroOperand)
  | jmp (target : MicroOperand)
  | beq (target : MicroOperand)
  | bne (target : MicroOperand)
deriving DecidableEq, Repr

/-- The BRK list; FLAGS is SR (`49_microops.md` R297, R298). -/
def brkList : List MicroOp :=
  [.sub .sp .sp 4#52, .st .pcPlus1 (.reg .sp), .sub .sp .sp 4#52, .st .sr (.reg .sp), .sepI,
   .ld .tmp1 (.literal 0xFFFFFFFFFFFC#52), .jmp .tmp1]

/-- The MVN list (`46_string.md` R260). -/
def mvnList : List MicroOp :=
  [.ld .tmp1 (.reg .x), .st .tmp1 (.reg .y), .add .x .x 4#52, .add .y .y 4#52, .sub .acc .acc 1#52, .bne .pc]

/-- The MVP list (`46_string.md` R260). -/
def mvpList : List MicroOp :=
  [.ld .tmp1 (.reg .x), .st .tmp1 (.reg .y), .sub .x .x 4#52, .sub .y .y 4#52, .sub .acc .acc 1#52, .bne .pc]

/-- The STS list (`46_string.md` R260). -/
def stsList : List MicroOp :=
  [.st .x (.reg .y), .add .y .y 4#52, .sub .acc .acc 1#52, .bne .pc]

/-- The CMPS list (`46_string.md` R260). -/
def cmpsList : List MicroOp :=
  [.ld .tmp1 (.reg .x), .ld .tmp2 (.reg .y), .add .x .x 4#52, .add .y .y 4#52, .sub .acc .acc 1#52, .beq .pcPlus1,
   .cmp .tmp1 .tmp2, .beq .pc]

/-! ## Lists delimited by their FL bits -/

/-- A line as it stands among the micro-instructions: with its FL bits (`49_microops.md` R292). -/
structure MicroLine where
  fl : BitVec 2
  op : MicroOp
deriving DecidableEq, Repr

/-- The lines after the first of a list: middle ones, and the last. -/
def markRest : List MicroOp → List MicroLine
  | [] => []
  | [op] => [⟨0b10#2, op⟩]
  | op :: rest => ⟨0b00#2, op⟩ :: markRest rest

/-- A list with its FL bits: first, middle, last; a list of one line is first and last (`49_microops.md` R292). -/
def markList : List MicroOp → List MicroLine
  | [] => []
  | [op] => [⟨0b11#2, op⟩]
  | op :: rest => ⟨0b01#2, op⟩ :: markRest rest

/-- The lines up to the one that is marked last; none if a list begins, or the lines end, before it. -/
def linesToLast : List MicroLine → Option (List MicroOp)
  | [] => none
  | line :: rest =>
    match microFirstLast line.fl with
    | (true, _) => none
    | (false, true) => some [line.op]
    | (false, false) => (linesToLast rest).map fun ops => line.op :: ops

/-- The list that begins at a pointer: from a line marked first to the next one marked last (`49_microops.md` R292). -/
def microListAt (lines : List MicroLine) (pointer : Nat) : Option (List MicroOp) :=
  match lines.drop pointer with
  | [] => none
  | line :: rest =>
    match microFirstLast line.fl with
    | (false, _) => none
    | (true, true) => some [line.op]
    | (true, false) => (linesToLast rest).map fun ops => line.op :: ops

/-! ## Dispatch -/

/-- The micro-instructions of the five printed lists, one list after the other (`49_microops.md` R290, R297); in
which order the hardware holds them the source does not say (log entry 35). -/
def microLines : List MicroLine :=
  markList brkList ++ markList mvnList ++ markList mvpList ++ markList stsList ++ markList cmpsList

/-- The nine-bit index of an instruction: its bits 8..0 (`49_microops.md` R290). -/
def microIndex (ins : Word) : BitVec 9 :=
  field ins 0 9

/-- The table of pointers into `microLines`, by function code and opcode; the source gives no other entry of the 512
(`49_microops.md` R290). -/
def microPointer (index : BitVec 9) : Option Nat :=
  match index.toNat with
  | 0o334 => some 0
  | 0o445 => some 7
  | 0o545 => some 13
  | 0o645 => some 19
  | 0o745 => some 23
  | _ => none

/-- The list of an instruction, where the source gives one (`49_microops.md` R290, R292). -/
def microDispatch (ins : Word) : Option (List MicroOp) :=
  (microPointer (microIndex ins)).bind (microListAt microLines)

/-! ## The engine -/

/-- The engine inside one instruction: the machine, the instruction itself, the two temporaries (`10_state.md` R40),
and the internal zero test of the last ADD, SUB or CMP (`46_string.md` R263). -/
structure MicroState where
  machine : State
  instruction : Word
  tmp1 : Word
  tmp2 : Word
  zero : Bool
deriving DecidableEq, Repr

/-- The register whose number stands in five bits of the instruction. -/
def MicroState.fieldRegister (m : MicroState) (lo : Nat) : RegNo :=
  field m.instruction lo 5

/-- The value of an operand (`49_microops.md` R293 to R295); SR is read as its word image (R298). -/
def MicroState.read (m : MicroState) : MicroOperand → Word
  | .zero => 0#52
  | .registerField lo => m.machine.readReg (m.fieldRegister lo)
  | .acc => m.machine.readReg regAcc
  | .x => m.machine.readReg regX
  | .y => m.machine.readReg regY
  | .sp => m.machine.readReg regSp
  | .tmp1 => m.tmp1
  | .tmp2 => m.tmp2
  | .sr => packSR m.machine.cfg.srPos m.machine.sr
  | .pc => m.machine.pc
  | .pcPlus1 => m.machine.pc + 1#52
  | .pcPlus4 => m.machine.pc + 4#52
  | .one => 1#52
  | .minusOne => -1#52

/-- A result written to an operand: discarded if that is the value 0; `none` for those that can only be read
(`49_microops.md` R293). SR is written from its word image (`10_state.md` R35, log entry 35). -/
def MicroState.write (m : MicroState) (r : MicroOperand) (v : Word) : Option MicroState :=
  match r with
  | .zero => some m
  | .registerField lo => some { m with machine := m.machine.writeReg (m.fieldRegister lo) v }
  | .acc => some { m with machine := m.machine.writeReg regAcc v }
  | .x => some { m with machine := m.machine.writeReg regX v }
  | .y => some { m with machine := m.machine.writeReg regY v }
  | .sp => some { m with machine := m.machine.writeReg regSp v }
  | .tmp1 => some { m with tmp1 := v }
  | .tmp2 => some { m with tmp2 := v }
  | .sr => some { m with machine := m.machine.setSR (unpackSR m.machine.cfg.srPos v) }
  | .pc | .pcPlus1 | .pcPlus4 | .one | .minusOne => none

/-- The value that a `Tgt4` selector gives as the data of a store (`49_microops.md` R293). -/
def MicroState.storeData (m : MicroState) (tgt : BitVec 4) : Option Word :=
  (microTarget tgt).map m.read

/-- A result written where a `Tgt4` selector says (`49_microops.md` R293). -/
def MicroState.writeTarget (m : MicroState) (tgt : BitVec 4) (v : Word) : Option MicroState :=
  (microTarget tgt).bind fun r => m.write r v

/-- The value that a `Src1` selector gives (`49_microops.md` R294). -/
def MicroState.source1 (m : MicroState) (src1 : BitVec 4) : Option Word :=
  (microSource1 src1).map m.read

/-- The value that a `Src2` selector gives (`49_microops.md` R295). -/
def MicroState.source2 (m : MicroState) (src2 : BitVec 4) : Option Word :=
  (microSource2 src2).map m.read

/-- The value of an address operand. -/
def MicroState.address (m : MicroState) : MicroAddress → Word
  | .reg r => m.read r
  | .literal a => a

/-- The engine after the count's SUB: the architectural flags stay, but under `cfg.string_flags_from_count`
(`46_string.md` R263, log entry 36). -/
def MicroState.countFlags (m : MicroState) (target : MicroOperand) (a k : Word) : MicroState :=
  if target = .acc ∧ m.machine.cfg.stringFlagsFromCount = true then
    { m with machine := m.machine.setSR (m.machine.sr.afterSub m.machine.cfg a k) }
  else m

/-- The engine with its zero test set by a result. -/
def MicroState.testZero (m : MicroState) (r : Word) : MicroState :=
  { m with zero := decide (r = 0#52) }

/-- The machine with pc at a branch or jump target. -/
def MicroState.goTo (m : MicroState) (target : MicroOperand) : State :=
  m.machine.setPc (m.read target)

/-- Go on unless an access of the engine is refused. -/
def unlessMicroRefused (refusal : Option Refusal) (next : Option Result) : Option Result :=
  match refusal with
  | none => next
  | some r => some (.refused r)

/-- Run a list to its end, a taken branch or a jump; `none` if a line writes an operand that can only be read, which
no printed list does (`49_microops.md` R297, R298). -/
def runMicroOps : List MicroOp → MicroState → Option Result
  | [], m => some (.next (m.machine.advance 1))
  | op :: rest, m =>
    match op with
    | .add t s k => (m.write t (m.read s + k)).bind fun m' => runMicroOps rest (m'.testZero (m.read s + k))
    | .sub t s k =>
      ((m.countFlags t (m.read s) k).write t (m.read s - k)).bind fun m' =>
        runMicroOps rest (m'.testZero (m.read s - k))
    | .ld t a =>
      unlessMicroRefused (wordRefusal m.machine.cfg (m.address a)) <|
        (m.write t (m.machine.loadWord (m.address a))).bind fun m' => runMicroOps rest m'
    | .st d a =>
      unlessMicroRefused (wordRefusal m.machine.cfg (m.address a)) <|
        runMicroOps rest { m with machine := m.machine.storeWord (m.address a) (m.read d) }
    | .sepI => runMicroOps rest { m with machine := m.machine.setSR { m.machine.sr with i := true } }
    | .cmp a b =>
      runMicroOps rest
        (MicroState.testZero
          { m with machine := m.machine.setSR (m.machine.sr.afterCompare m.machine.cfg (m.read a) (m.read b)) }
          (m.read a - m.read b))
    | .jmp t => some (.next (m.goTo t))
    | .beq t => if m.zero then some (.next (m.goTo t)) else runMicroOps rest m
    | .bne t => if m.zero then runMicroOps rest m else some (.next (m.goTo t))

/-- The instruction word at pc run by the list it is dispatched to, from temporaries that hold anything
(`49_microops.md` R290, `10_state.md` R40); `none` where the source gives no list. -/
def runMicro (ins tmp1 tmp2 : Word) (s : State) : Option Result :=
  (microDispatch ins).bind fun ops =>
    runMicroOps ops { machine := s, instruction := ins, tmp1 := tmp1, tmp2 := tmp2, zero := false }

end Sys2Proof.Machine
end

