-- ==== Sys2Proof/Safety.lean ====
section
/-! DEFINITION. The terms that claims about the machine use: the invariant, what an instruction leaves
unchanged, which flags and registers it may write, and repeated execution. -/

namespace Sys2Proof.Machine

/-! ## The invariant -/

/-- What every step keeps: both memories and the record of stored-to bytes are in canonical form, the slot of
R0 holds 0 (`10_state.md` R21), and the flags of the SR image have places of their own (R34). -/
structure State.Inv (s : State) : Prop where
  memory : s.mem.wf = true
  codeMemory : s.code.wf = true
  stored : s.written.wf = true
  regZero : s.regs[0] = 0#52
  layout : s.cfg.srPos.Injective

/-! ## Frames -/

/-- Every register but those listed reads as before. -/
def KeepsRegs (s t : State) (but : List RegNo) : Prop :=
  ∀ r, r ∉ but → t.readReg r = s.readReg r

/-- Every flag but those listed is as before. -/
def KeepsFlags (s t : State) (but : List Flag) : Prop :=
  ∀ f, f ∉ but → t.sr.get f = s.sr.get f

/-- Configuration, code memory and the requests to come are as before. -/
def KeepsRest (s t : State) : Prop :=
  t.cfg = s.cfg ∧ t.code = s.code ∧ t.inputs = s.inputs

/-- No byte of memory has changed, and none counts as stored to that did not. -/
def StoresNothing (s t : State) : Prop :=
  (∀ a, byteAt t.mem a = byteAt s.mem a) ∧ t.written = s.written

/-- No byte of memory has changed but the `n` from `base` on, modulo 2^52, and those now count as stored to. -/
def StoresOnly (s t : State) (base : Word) (n : Nat) : Prop :=
  (∀ a : Word, n ≤ (a - base).toNat → t.loadByte a = s.loadByte a) ∧
    ∀ x, x ∈ t.written ↔ x ∈ s.written ∨ ∃ k, k < n ∧ x = (base + BitVec.ofNat 52 k).toNat

/-- The frame of an instruction that stores nothing and leaves the run state alone. -/
def Frame (s t : State) (regs : List RegNo) (flags : List Flag) : Prop :=
  KeepsRegs s t regs ∧ KeepsFlags s t flags ∧ StoresNothing s t ∧ t.run = s.run ∧ KeepsRest s t

/-- The frame of an instruction that stores `n` bytes from `base` on and leaves the run state alone. -/
def StoreFrame (s t : State) (regs : List RegNo) (flags : List Flag) (base : Word) (n : Nat) : Prop :=
  KeepsRegs s t regs ∧ KeepsFlags s t flags ∧ StoresOnly s t base n ∧ t.run = s.run ∧ KeepsRest s t

/-- n and z are those of a 52-bit value given as a number (`10_state.md` R30). -/
def FlagsNZOf (sr : StatusRegister) (r : Nat) : Prop :=
  (sr.n = true ↔ 2 ^ 51 ≤ r) ∧ (sr.z = true ↔ r = 0)

/-- A register holds a number, or 0 if it is R0 (`10_state.md` R21). -/
def RegHolds (t : State) (r : RegNo) (v : Nat) : Prop :=
  (t.readReg r).toNat = if r = 0#5 then 0 else v

/-- pc has gone on by `len` bytes, modulo 2^52 (`10_state.md` R25). -/
def PcAdvanced (s t : State) (len : Nat) : Prop :=
  t.pc.toNat = (s.pc.toNat + len) % 2 ^ 52

/-- `sext_N` and `zext_N` on numbers (`00_scope.md` R13). -/
def extendedValue {len : Nat} (e : Extension) (v : BitVec len) : Nat :=
  match e with
  | .sign => if 2 ^ (len - 1) ≤ v.toNat then v.toNat + 2 ^ 52 - 2 ^ len else v.toNat
  | .zero => v.toNat

/-! ## Accesses the configuration allows -/

/-- No window of `cfg.memmap` covers the byte (`20_memory.md` R52, R65). -/
abbrev ByteAccessible (cfg : Config) (a : Word) : Prop :=
  ∀ w ∈ cfg.memMap, a.toNat < w.base ∨ w.base + w.size ≤ a.toNat

/-- No window covers any of the four bytes of the word, and the address is a multiple of 4 or need not be one
(`20_memory.md` R57, R65). -/
abbrev WordAccessible (cfg : Config) (a : Word) : Prop :=
  (∀ k < 4, ByteAccessible cfg (a + BitVec.ofNat 52 k)) ∧ (cfg.misalignedOk = true ∨ a.toNat % 4 = 0)

/-! ## Words in memory, on numbers -/

/-- The place, counted from the least significant, of the byte of a word that stands at the word's address
plus `k` (`20_memory.md` R53, `cfg.data_little_endian`). -/
def significance (cfg : Config) (k : Nat) : Nat :=
  if cfg.dataLittleEndian then k else 3 - k

/-- `MemRead(a, 4)` as the sum of `20_memory.md` R53. -/
def memWord (s : State) (a : Word) : Nat :=
  ((List.range 4).map fun k => (s.loadByte (a + BitVec.ofNat 52 k)).toNat * 2 ^ (13 * significance s.cfg k)).sum

/-- The four bytes from an address hold a word (`20_memory.md` R54). -/
def HoldsWord (t : State) (a : Word) (v : Nat) : Prop :=
  ∀ k < 4, (t.loadByte (a + BitVec.ofNat 52 k)).toNat = v / 2 ^ (13 * significance t.cfg k) % 2 ^ 13

/-- A number is the SR image: bit `k` is set exactly if a set flag stands there (`10_state.md` R34). -/
def IsSRImage (p : FlagPositions) (sr : StatusRegister) (w : Nat) : Prop :=
  ∀ k, w.testBit k = true ↔ ∃ f, (p.of f).val = k ∧ sr.get f = true

/-- Each flag is its bit of a word (`10_state.md` R35). -/
def FlagsFromImage (p : FlagPositions) (sr : StatusRegister) (w : Nat) : Prop :=
  ∀ f, sr.get f = w.testBit (p.of f).val

/-! ## Flags, on numbers -/

/-- `signed(v)` (`00_scope.md` R12). -/
def signedValue (a : Nat) : Int :=
  if a < 2 ^ 51 then a else (a : Int) - 2 ^ 52

/-- A signed result that 52 bits do not hold. -/
def SignedOverflow (x : Int) : Prop :=
  x < -(2 ^ 51) ∨ 2 ^ 51 ≤ x

/-- `(a - b) mod 2^52`. -/
def difference (a b : Nat) : Nat :=
  (a + 2 ^ 52 - b) % 2 ^ 52

/-- c after a subtraction or a comparison (`40_arith_logic.md` R122, `cfg.sub_carry_is_not_borrow`). -/
def CarryOfSub (cfg : Config) (sr : StatusRegister) (a b : Nat) : Prop :=
  sr.c = true ↔ if cfg.subCarryIsNotBorrow then b ≤ a else a < b

/-- c n z after a comparison (`40_arith_logic.md` R125). -/
def FlagsOfCompare (cfg : Config) (sr : StatusRegister) (a b : Nat) : Prop :=
  CarryOfSub cfg sr a b ∧ FlagsNZOf sr (difference a b)

/-- c v n z after a subtraction (`40_arith_logic.md` R122, R124). -/
def FlagsOfSub (cfg : Config) (sr : StatusRegister) (a b : Nat) : Prop :=
  FlagsOfCompare cfg sr a b ∧ (sr.v = true ↔ SignedOverflow (signedValue a - signedValue b))

/-! ## What one instruction does, from the state before to the state after -/

/-- ADD (`40_arith_logic.md` R121 to R123). -/
def AddDone (s t : State) (rt : RegNo) (a b len : Nat) : Prop :=
  RegHolds t rt ((a + b) % 2 ^ 52) ∧ FlagsNZOf t.sr ((a + b) % 2 ^ 52) ∧ (t.sr.c = true ↔ 2 ^ 52 ≤ a + b) ∧
    (t.sr.v = true ↔ SignedOverflow (signedValue a + signedValue b)) ∧ PcAdvanced s t len ∧
    Frame s t [rt] [.c, .v, .n, .z]

/-- SUB (`40_arith_logic.md` R121, R122, R124). -/
def SubDone (s t : State) (rt : RegNo) (a b len : Nat) : Prop :=
  RegHolds t rt (difference a b) ∧ FlagsOfSub s.cfg t.sr a b ∧ PcAdvanced s t len ∧ Frame s t [rt] [.c, .v, .n, .z]

/-- CMP (`40_arith_logic.md` R125). -/
def CmpDone (s t : State) (a b len : Nat) : Prop :=
  FlagsOfCompare s.cfg t.sr a b ∧ PcAdvanced s t len ∧ Frame s t [] [.c, .n, .z]

/-- BIT (`40_arith_logic.md` R127). -/
def BitDone (s t : State) (a b len : Nat) : Prop :=
  FlagsNZOf t.sr (a &&& b) ∧ t.sr.v = (a &&& b).testBit 50 ∧ PcAdvanced s t len ∧ Frame s t [] [.v, .n, .z]

/-- AND, OR, EOR, LD, LDB: a value to a register, n z from it (`40_arith_logic.md` R126, `41_load_store.md` R142). -/
def ValueDone (s t : State) (rt : RegNo) (v len : Nat) : Prop :=
  RegHolds t rt v ∧ FlagsNZOf t.sr v ∧ PcAdvanced s t len ∧ Frame s t [rt] [.n, .z]

/-- ST (`41_load_store.md` R144, `90_conflicts.md` C4). -/
def StoreDone (s t : State) (rs : RegNo) (ea : Word) (len : Nat) : Prop :=
  HoldsWord t ea (s.readReg rs).toNat ∧ PcAdvanced s t len ∧
    StoreFrame s t [] (if s.cfg.stWritesNz then [.n, .z] else []) ea 4 ∧
    (s.cfg.stWritesNz = true → FlagsNZOf t.sr (s.readReg rs).toNat)

/-- A shift or rotate: a value to a register, n z from it, and a carry (`42_shift.md` R161). -/
def ShiftDone (s t : State) (rt : RegNo) (v : Nat) (carry : Prop) : Prop :=
  RegHolds t rt v ∧ FlagsNZOf t.sr v ∧ (t.sr.c = true ↔ carry) ∧ PcAdvanced s t 2 ∧ Frame s t [rt] [.c, .n, .z]

/-- A transfer of control that writes no register, flag or byte. -/
def TransferDone (s t : State) (target : Nat) : Prop :=
  t.pc.toNat = target ∧ Frame s t [] []

/-- A word pushed: sp has fallen by 4, and the word stands there (`20_memory.md` R60). -/
def PushDone (s t : State) (v : Nat) : Prop :=
  (t.readReg regSp).toNat = difference (s.readReg regSp).toNat 4 ∧ HoldsWord t (s.readReg regSp - 4#52) v ∧
    StoreFrame s t [regSp] [] (s.readReg regSp - 4#52) 4

/-- sp has risen by `n` bytes (`20_memory.md` R61). -/
def SpRaised (s t : State) (n : Nat) : Prop :=
  (t.readReg regSp).toNat = ((s.readReg regSp).toNat + n) % 2 ^ 52

/-- The part of a trap entry that every kind has: i, b, the other flags, the run state, and pc from the vector
word, read after the pushes (`60_exceptions.md` R320, R321). -/
def HandlerEntered (s t : State) (kind : TrapKind) : Prop :=
  t.sr.i = true ∧ (t.sr.b = true ↔ kind = .brk) ∧ KeepsFlags s t [.i, .b] ∧ t.run = .running ∧ KeepsRest s t ∧
    t.pc.toNat = memWord t (trapVector s.cfg kind)

/-- The two pushes of a trap entry: sp falls by 8; the return address stands above the SR image as it was
(`60_exceptions.md` R320). -/
def TrapFramePushed (s t : State) (ret : Nat) : Prop :=
  (t.readReg regSp).toNat = difference (s.readReg regSp).toNat 8 ∧ KeepsRegs s t [regSp] ∧
    HoldsWord t (s.readReg regSp - 4#52) ret ∧ IsSRImage s.cfg.srPos s.sr (memWord t (s.readReg regSp - 8#52)) ∧
    ∀ a : Word, 8 ≤ (a - (s.readReg regSp - 8#52)).toNat → t.loadByte a = s.loadByte a

/-- The eight bytes of a trap entry's pushes, and no other address, have been added to a record of stored-to
bytes (log entry 28). -/
def TrapFrameRecorded (s t : State) (record : AddressSet) : Prop :=
  ∀ x, x ∈ t.written ↔ x ∈ record ∨ ∃ k, k < 8 ∧ x = (s.readReg regSp - 8#52 + BitVec.ofNat 52 k).toNat

/-- The flags after the count of a string instruction: as before, or those of `SUB acc,acc,#1`
(`46_string.md` R263, `cfg.string_flags_from_count`). -/
def CountFlags (s t : State) : Prop :=
  if s.cfg.stringFlagsFromCount then
    FlagsOfSub s.cfg t.sr (s.readReg regAcc).toNat 1 ∧ KeepsFlags s t [.c, .v, .n, .z]
  else KeepsFlags s t []

/-- The count has gone down by one (`46_string.md` R263). -/
def CountedDown (s t : State) : Prop :=
  (t.readReg regAcc).toNat = difference (s.readReg regAcc).toNat 1

/-- The instruction repeats unless the count has reached 0 (`46_string.md` R261, R263). -/
def RepeatsUnlessOut (s t : State) : Prop :=
  if (s.readReg regAcc).toNat = 1 then PcAdvanced s t 1 else t.pc = s.pc

/-- One element of a move: `n` bytes copied from x to y, both addresses stepped by `up`, modulo 2^52
(`46_string.md` R264, R265, R269). -/
def MoveDone (s t : State) (n up : Nat) : Prop :=
  (∀ k < n, t.loadByte (s.readReg regY + BitVec.ofNat 52 k) = s.loadByte (s.readReg regX + BitVec.ofNat 52 k)) ∧
    StoresOnly s t (s.readReg regY) n ∧ (t.readReg regX).toNat = ((s.readReg regX).toNat + up) % 2 ^ 52 ∧
    (t.readReg regY).toNat = ((s.readReg regY).toNat + up) % 2 ^ 52 ∧ CountedDown s t ∧
    KeepsRegs s t [regAcc, regX, regY] ∧ CountFlags s t ∧ RepeatsUnlessOut s t ∧ t.run = s.run ∧ KeepsRest s t

/-- One element of a fill, but for the bytes stored: `n` bytes at y, y stepped, x unchanged (`46_string.md` R266). -/
def FillDone (s t : State) (n : Nat) : Prop :=
  StoresOnly s t (s.readReg regY) n ∧ (t.readReg regY).toNat = ((s.readReg regY).toNat + n) % 2 ^ 52 ∧
    CountedDown s t ∧ KeepsRegs s t [regAcc, regY] ∧ CountFlags s t ∧ RepeatsUnlessOut s t ∧ t.run = s.run ∧
    KeepsRest s t

/-- One element of a compare of two values: out of count, or c n z and a repeat while equal (`46_string.md` R267,
R268). -/
def CompareDone (s t : State) (n t1 t2 : Nat) : Prop :=
  (t.readReg regX).toNat = ((s.readReg regX).toNat + n) % 2 ^ 52 ∧
    (t.readReg regY).toNat = ((s.readReg regY).toNat + n) % 2 ^ 52 ∧ CountedDown s t ∧
    KeepsRegs s t [regAcc, regX, regY] ∧ StoresNothing s t ∧ t.run = s.run ∧ KeepsRest s t ∧
    (if (s.readReg regAcc).toNat = 1 then CountFlags s t ∧ PcAdvanced s t 1
    else
      FlagsOfCompare s.cfg t.sr t1 t2 ∧ (if t1 = t2 then t.pc = s.pc else PcAdvanced s t 1) ∧
        (if s.cfg.stringFlagsFromCount then
          (t.sr.v = true ↔ SignedOverflow (signedValue (s.readReg regAcc).toNat - 1)) ∧ KeepsFlags s t [.c, .v, .n, .z]
        else KeepsFlags s t [.c, .n, .z]))

/-! ## Targets of jumps and branches, on numbers -/

/-- The target of an absolute jump (`43_flow_control.md` R181, `cfg.jmp46_high`). -/
def jumpTargetNumber (cfg : Config) (pc addr : Nat) : Nat :=
  match cfg.jmp46High with
  | .zero => addr
  | .keep => pc / 2 ^ 46 * 2 ^ 46 + addr

/-- The target of a branch (`43_flow_control.md` R191, `cfg.branch_base`). -/
def branchTargetNumber (cfg : Config) (pc len : Nat) (disp : Int) : Nat :=
  match cfg.branchBase with
  | .nextInstruction => (((pc : Int) + len + disp) % 2 ^ 52).toNat
  | .branchItself => (((pc : Int) + disp) % 2 ^ 52).toNat

/-- A branch, taken or not (`43_flow_control.md` R194). -/
def BranchDone (s t : State) (taken : Prop) (len : Nat) (disp : Int) : Prop :=
  (taken → t.pc.toNat = branchTargetNumber s.cfg s.pc.toNat len disp) ∧ (¬ taken → PcAdvanced s t len) ∧ Frame s t [] []

/-! ## Shifts and rotates, on numbers -/

/-- ASL by `k`: the result (`42_shift.md` R163, closed form). -/
def aslValue (a k : Nat) : Nat :=
  a * 2 ^ k % 2 ^ 52

/-- ASL by `k`: the carry (`42_shift.md` R163, closed form). -/
def AslCarry (c : Bool) (a k : Nat) : Prop :=
  if k = 0 then c = true else k ≤ 52 ∧ a.testBit (52 - k) = true

/-- LSR by `k`: the result (`42_shift.md` R165, closed form). -/
def lsrValue (a k : Nat) : Nat :=
  a / 2 ^ k

/-- LSR by `k`: the carry (`42_shift.md` R165, closed form). -/
def LsrCarry (c : Bool) (a k : Nat) : Prop :=
  if k = 0 then c = true else a.testBit (k - 1) = true

/-- An `n`-bit number rotated left by `m` places. -/
def rotatedLeft (n x m : Nat) : Nat :=
  x * 2 ^ (m % n) % 2 ^ n + x / 2 ^ (n - m % n)

/-- An `n`-bit number rotated right by `m` places. -/
def rotatedRight (n x m : Nat) : Nat :=
  x / 2 ^ (m % n) + x % 2 ^ (m % n) * 2 ^ (n - m % n)

/-- ROL by `k`: a rotation of the 53 bits `c ++ a`, or of the 52 bits of `a` with c the last bit moved
(`42_shift.md` R164, `cfg.rotate_through_carry`). -/
def RolDone (s t : State) (rt : RegNo) (a k : Nat) : Prop :=
  if s.cfg.rotateThroughCarry then
    ShiftDone s t rt (rotatedLeft 53 (s.sr.c.toNat * 2 ^ 52 + a) k % 2 ^ 52)
      ((rotatedLeft 53 (s.sr.c.toNat * 2 ^ 52 + a) k).testBit 52 = true)
  else
    ShiftDone s t rt (rotatedLeft 52 a k) (if k = 0 then s.sr.c = true else (rotatedLeft 52 a k).testBit 0 = true)

/-- ROR by `k`: a rotation of the 53 bits `a ++ c`, or of the 52 bits of `a` with c the last bit moved
(`42_shift.md` R166, `cfg.rotate_through_carry`). -/
def RorDone (s t : State) (rt : RegNo) (a k : Nat) : Prop :=
  if s.cfg.rotateThroughCarry then
    ShiftDone s t rt (rotatedRight 53 (a * 2 + s.sr.c.toNat) k / 2)
      ((rotatedRight 53 (a * 2 + s.sr.c.toNat) k).testBit 0 = true)
  else
    ShiftDone s t rt (rotatedRight 52 a k) (if k = 0 then s.sr.c = true else (rotatedRight 52 a k).testBit 51 = true)

/-- The count of a shift whose count stands in a register (`42_shift.md` R160). -/
def countIn (s : State) (rb : RegNo) : Nat :=
  (s.readReg rb).toNat % 2 ^ s.cfg.shiftCountBits

/-! ## What an encoding means -/

/-- The bits of an instruction word that decoding does not look at: those above the instruction, and the unused
bits of its format (`30_encoding.md` R81, R99). -/
def isUnusedBit (i : Instr) (k : Nat) : Bool :=
  decide (13 * i.length ≤ k) ||
    match i with
    | .addRR _ _ _ | .cmpRR _ _ | .subRR _ _ _ | .bitRR _ _ | .andRR _ _ _ | .orRR _ _ _ | .eorRR _ _ _ | .ldRR _ _ _
    | .stRR _ _ _ | .aslRR _ _ _ | .rolRR _ _ _ | .lsrRR _ _ _ | .rorRR _ _ _ => decide (21 ≤ k ∧ k ≤ 24)
    | .aslI6 _ _ _ | .rolI6 _ _ _ | .lsrI6 _ _ _ | .rorI6 _ _ _ => decide (22 ≤ k ∧ k ≤ 24)
    | .jmpReg _ | .jsrReg _ | .psh _ | .pop _ => decide (11 ≤ k ∧ k ≤ 12)
    | .rts | .rti | .pfi | .wai | .stp | .nop | .rst | .nmi | .irq | .mvnb | .mvpb | .stsb | .cmpsb | .mvn | .mvp
    | .sts | .cmps => decide (9 ≤ k ∧ k ≤ 12)
    | .php | .plp => decide (6 ≤ k ∧ k ≤ 12)
    | .addI9 _ _ _ | .addI23 _ _ _ | .addI36 _ _ _ | .cmpI9 _ _ | .cmpI23 _ _ | .cmpI36 _ _ | .subI9 _ _ _
    | .subI23 _ _ _ | .subI36 _ _ _ | .bitI9 _ _ | .bitI23 _ _ | .bitI36 _ _ | .andI9 _ _ _ | .andI23 _ _ _
    | .andI36 _ _ _ | .orI9 _ _ _ | .orI23 _ _ _ | .orI36 _ _ _ | .eorI9 _ _ _ | .eorI23 _ _ _ | .eorI36 _ _ _
    | .ldD9 _ _ _ | .ldD23 _ _ _ | .ldD36 _ _ _ | .ldb _ _ _ | .stD9 _ _ _ | .stD23 _ _ _ | .stD36 _ _ _ | .stb _ _ _
    | .jmpAbs _ | .jsrAbs _ | .beqD4 _ | .bneD4 _ | .bplD4 _ | .bmiD4 _ | .bvsD4 _ | .bvcD4 _ | .bcsD4 _ | .bccD4 _
    | .beqD17 _ | .bneD17 _ | .bplD17 _ | .bmiD17 _ | .bvsD17 _ | .bvcD17 _ | .bcsD17 _ | .bccD17 _ | .braD4 _
    | .braD17 _ | .brk _ | .sep _ | .rep _ => false

/-- Where an instruction takes its last operand from (`30_encoding.md` R83 to R87). -/
inductive OperandForm where
  | register (rb : RegNo)
  | imm9 (v : BitVec 9)
  | imm23 (v : BitVec 23)
  | imm36 (v : BitVec 36)
  | count6 (v : BitVec 6)
deriving DecidableEq, Repr

/-- The form of the last operand of an arithmetic, logic, load, store or shift instruction. -/
def operandForm : Instr → Option OperandForm
  | .addRR _ _ rb | .cmpRR _ rb | .subRR _ _ rb | .bitRR _ rb | .andRR _ _ rb | .orRR _ _ rb | .eorRR _ _ rb
  | .ldRR _ _ rb | .stRR _ _ rb | .aslRR _ _ rb | .rolRR _ _ rb | .lsrRR _ _ rb | .rorRR _ _ rb => some (.register rb)
  | .addI9 _ _ v | .cmpI9 _ v | .subI9 _ _ v | .bitI9 _ v | .andI9 _ _ v | .orI9 _ _ v | .eorI9 _ _ v | .ldD9 _ _ v
  | .stD9 _ _ v => some (.imm9 v)
  | .addI23 _ _ v | .cmpI23 _ v | .subI23 _ _ v | .bitI23 _ v | .andI23 _ _ v | .orI23 _ _ v | .eorI23 _ _ v
  | .ldD23 _ _ v | .stD23 _ _ v => some (.imm23 v)
  | .addI36 _ _ v | .cmpI36 _ v | .subI36 _ _ v | .bitI36 _ v | .andI36 _ _ v | .orI36 _ _ v | .eorI36 _ _ v
  | .ldD36 _ _ v | .ldb _ _ v | .stD36 _ _ v | .stb _ _ v => some (.imm36 v)
  | .aslI6 _ _ v | .rolI6 _ _ v | .lsrI6 _ _ v | .rorI6 _ _ v => some (.count6 v)
  | .jmpAbs _ | .jsrAbs _ | .jmpReg _ | .jsrReg _ | .rts | .rti | .pfi | .wai | .stp | .nop | .beqD4 _
  | .bneD4 _ | .bplD4 _ | .bmiD4 _ | .bvsD4 _ | .bvcD4 _ | .bcsD4 _ | .bccD4 _ | .beqD17 _ | .bneD17 _
  | .bplD17 _ | .bmiD17 _ | .bvsD17 _ | .bvcD17 _ | .bcsD17 _ | .bccD17 _ | .braD4 _ | .braD17 _ | .rst | .nmi
  | .irq | .brk _ | .php | .psh _ | .plp | .pop _ | .sep _ | .rep _ | .mvnb | .mvpb | .stsb | .cmpsb | .mvn
  | .mvp | .sts | .cmps => none

/-- The four instructions that a target field of 0 tells apart (`30_encoding.md` R95), and all others. -/
inductive TargetFamily where
  | sub | cmp | and | bit | other
deriving DecidableEq, Repr

/-- Which of them an instruction is, in any form. -/
def targetFamily : Instr → TargetFamily
  | .subRR _ _ _ | .subI9 _ _ _ | .subI23 _ _ _ | .subI36 _ _ _ => .sub
  | .cmpRR _ _ | .cmpI9 _ _ | .cmpI23 _ _ | .cmpI36 _ _ => .cmp
  | .andRR _ _ _ | .andI9 _ _ _ | .andI23 _ _ _ | .andI36 _ _ _ => .and
  | .bitRR _ _ | .bitI9 _ _ | .bitI23 _ _ | .bitI36 _ _ => .bit
  | .addRR _ _ _ | .addI9 _ _ _ | .addI23 _ _ _ | .addI36 _ _ _ | .orRR _ _ _ | .orI9 _ _ _ | .orI23 _ _ _
  | .orI36 _ _ _ | .eorRR _ _ _ | .eorI9 _ _ _ | .eorI23 _ _ _ | .eorI36 _ _ _ | .ldRR _ _ _ | .ldD9 _ _ _
  | .ldD23 _ _ _ | .ldD36 _ _ _ | .ldb _ _ _ | .stRR _ _ _ | .stD9 _ _ _ | .stD23 _ _ _ | .stD36 _ _ _
  | .stb _ _ _ | .aslRR _ _ _ | .aslI6 _ _ _ | .rolRR _ _ _ | .rolI6 _ _ _ | .lsrRR _ _ _ | .lsrI6 _ _ _
  | .rorRR _ _ _ | .rorI6 _ _ _ | .jmpAbs _ | .jsrAbs _ | .jmpReg _ | .jsrReg _ | .rts | .rti | .pfi | .wai
  | .stp | .nop | .beqD4 _ | .bneD4 _ | .bplD4 _ | .bmiD4 _ | .bvsD4 _ | .bvcD4 _ | .bcsD4 _ | .bccD4 _
  | .beqD17 _ | .bneD17 _ | .bplD17 _ | .bmiD17 _ | .bvsD17 _ | .bvcD17 _ | .bcsD17 _ | .bccD17 _ | .braD4 _
  | .braD17 _ | .rst | .nmi | .irq | .brk _ | .php | .psh _ | .plp | .pop _ | .sep _ | .rep _ | .mvnb | .mvpb
  | .stsb | .cmpsb | .mvn | .mvp | .sts | .cmps => .other

/-- The rows of the table of unassigned encodings, by opcode and by bits 8..6 (`30_encoding.md` R98). -/
def isUnassigned (opcode fn : Nat) : Bool :=
  opcode ∈ [0o03, 0o13, 0o23, 0o33, 0o43, 0o53, 0o63, 0o73, 0o07, 0o17, 0o27, 0o37, 0o47, 0o57, 0o67, 0o77, 0o20,
    0o21, 0o22, 0o55] ||
    (opcode == 0o24 && (fn == 3 || fn == 5)) || (opcode == 0o34 && decide (4 ≤ fn)) ||
    ((opcode == 0o25 || opcode == 0o35) && fn != 0)

/-! ## Which flags and registers an instruction may write -/

/-- The flags each instruction may write (`10_state.md` R28), with the two switches of `90_conflicts.md` C4
and C11. -/
def flagsWritten (cfg : Config) : Instr → List Flag
  | .addRR _ _ _ | .addI9 _ _ _ | .addI23 _ _ _ | .addI36 _ _ _ | .subRR _ _ _ | .subI9 _ _ _ | .subI23 _ _ _
  | .subI36 _ _ _ =>
    [.c, .v, .n, .z]
  | .cmpRR _ _ | .cmpI9 _ _ | .cmpI23 _ _ | .cmpI36 _ _ | .aslRR _ _ _ | .aslI6 _ _ _ | .rolRR _ _ _
  | .rolI6 _ _ _ | .lsrRR _ _ _ | .lsrI6 _ _ _ | .rorRR _ _ _ | .rorI6 _ _ _ =>
    [.c, .n, .z]
  | .bitRR _ _ | .bitI9 _ _ | .bitI23 _ _ | .bitI36 _ _ =>
    [.v, .n, .z]
  | .andRR _ _ _ | .andI9 _ _ _ | .andI23 _ _ _ | .andI36 _ _ _ | .orRR _ _ _ | .orI9 _ _ _ | .orI23 _ _ _
  | .orI36 _ _ _ | .eorRR _ _ _ | .eorI9 _ _ _ | .eorI23 _ _ _ | .eorI36 _ _ _ | .ldRR _ _ _ | .ldD9 _ _ _
  | .ldD23 _ _ _ | .ldD36 _ _ _ | .ldb _ _ _ | .pop _ =>
    [.n, .z]
  | .stRR _ _ _ | .stD9 _ _ _ | .stD23 _ _ _ | .stD36 _ _ _ =>
    if cfg.stWritesNz then [.n, .z] else []
  | .rti | .plp =>
    [.c, .z, .i, .d, .u, .v, .n, .b]
  | .rst | .nmi | .irq | .brk _ =>
    [.i, .b]
  | .sep _ | .rep _ =>
    [.c, .v, .n, .z, .i, .u]
  | .mvnb | .mvpb | .stsb | .mvn | .mvp | .sts =>
    if cfg.stringFlagsFromCount then [.c, .v, .n, .z] else []
  | .cmpsb | .cmps =>
    if cfg.stringFlagsFromCount then [.c, .v, .n, .z] else [.c, .n, .z]
  | .stb _ _ _ | .jmpAbs _ | .jsrAbs _ | .jmpReg _ | .jsrReg _ | .rts | .pfi | .wai | .stp | .nop | .beqD4 _
  | .bneD4 _ | .bplD4 _ | .bmiD4 _ | .bvsD4 _ | .bvcD4 _ | .bcsD4 _ | .bccD4 _ | .beqD17 _ | .bneD17 _
  | .bplD17 _ | .bmiD17 _ | .bvsD17 _ | .bvcD17 _ | .bcsD17 _ | .bccD17 _ | .braD4 _ | .braD17 _ | .php
  | .psh _ =>
    []

/-- The registers each instruction may write: its target field, and the registers it uses implicitly
(`10_state.md` R23). -/
def regsWritten (cfg : Config) : Instr → List RegNo
  | .addRR rt _ _ | .addI9 rt _ _ | .addI23 rt _ _ | .addI36 rt _ _ | .subRR rt _ _ | .subI9 rt _ _
  | .subI23 rt _ _ | .subI36 rt _ _ | .andRR rt _ _ | .andI9 rt _ _ | .andI23 rt _ _ | .andI36 rt _ _
  | .orRR rt _ _ | .orI9 rt _ _ | .orI23 rt _ _ | .orI36 rt _ _ | .eorRR rt _ _ | .eorI9 rt _ _
  | .eorI23 rt _ _ | .eorI36 rt _ _ | .ldRR rt _ _ | .ldD9 rt _ _ | .ldD23 rt _ _ | .ldD36 rt _ _ | .ldb rt _ _
  | .aslRR rt _ _ | .aslI6 rt _ _ | .rolRR rt _ _ | .rolI6 rt _ _ | .lsrRR rt _ _ | .lsrI6 rt _ _
  | .rorRR rt _ _ | .rorI6 rt _ _ => [rt]
  | .pop rt => [regSp, rt]
  | .jsrAbs _ | .jsrReg _ | .rts | .rti | .nmi | .irq | .brk _ | .php | .psh _ | .plp => [regSp]
  | .rst => if cfg.rstPushes then [regSp] else []
  | .mvnb | .mvpb | .cmpsb | .mvn | .mvp | .cmps => [regAcc, regX, regY]
  | .stsb | .sts => [regAcc, regY]
  | .cmpRR _ _ | .cmpI9 _ _ | .cmpI23 _ _ | .cmpI36 _ _ | .bitRR _ _ | .bitI9 _ _ | .bitI23 _ _ | .bitI36 _ _
  | .stRR _ _ _ | .stD9 _ _ _ | .stD23 _ _ _ | .stD36 _ _ _ | .stb _ _ _ | .jmpAbs _ | .jmpReg _ | .pfi | .wai
  | .stp | .nop | .beqD4 _ | .bneD4 _ | .bplD4 _ | .bmiD4 _ | .bvsD4 _ | .bvcD4 _ | .bcsD4 _ | .bccD4 _
  | .beqD17 _ | .bneD17 _ | .bplD17 _ | .bmiD17 _ | .bvsD17 _ | .bvcD17 _ | .bcsD17 _ | .bccD17 _ | .braD4 _
  | .braD17 _ | .sep _ | .rep _ => []

/-- The instructions that may leave pc elsewhere than at the next instruction (`10_state.md` R25): flow control,
the string instructions and the trap group. -/
def transfersControl : Instr → Bool
  | .jmpAbs _ | .jsrAbs _ | .jmpReg _ | .jsrReg _ | .rts | .rti | .beqD4 _ | .bneD4 _ | .bplD4 _ | .bmiD4 _ | .bvsD4 _
  | .bvcD4 _ | .bcsD4 _ | .bccD4 _ | .beqD17 _ | .bneD17 _ | .bplD17 _ | .bmiD17 _ | .bvsD17 _ | .bvcD17 _ | .bcsD17 _
  | .bccD17 _ | .braD4 _ | .braD17 _ | .rst | .nmi | .irq | .brk _ | .mvnb | .mvpb | .stsb | .cmpsb | .mvn | .mvp
  | .sts | .cmps => true
  | .addRR _ _ _ | .addI9 _ _ _ | .addI23 _ _ _ | .addI36 _ _ _ | .cmpRR _ _ | .cmpI9 _ _ | .cmpI23 _ _
  | .cmpI36 _ _ | .subRR _ _ _ | .subI9 _ _ _ | .subI23 _ _ _ | .subI36 _ _ _ | .bitRR _ _ | .bitI9 _ _
  | .bitI23 _ _ | .bitI36 _ _ | .andRR _ _ _ | .andI9 _ _ _ | .andI23 _ _ _ | .andI36 _ _ _ | .orRR _ _ _
  | .orI9 _ _ _ | .orI23 _ _ _ | .orI36 _ _ _ | .eorRR _ _ _ | .eorI9 _ _ _ | .eorI23 _ _ _ | .eorI36 _ _ _
  | .ldRR _ _ _ | .ldD9 _ _ _ | .ldD23 _ _ _ | .ldD36 _ _ _ | .ldb _ _ _ | .stRR _ _ _ | .stD9 _ _ _
  | .stD23 _ _ _ | .stD36 _ _ _ | .stb _ _ _ | .aslRR _ _ _ | .aslI6 _ _ _ | .rolRR _ _ _ | .rolI6 _ _ _
  | .lsrRR _ _ _ | .lsrI6 _ _ _ | .rorRR _ _ _ | .rorI6 _ _ _ | .pfi | .wai | .stp | .nop | .php | .psh _
  | .plp | .pop _ | .sep _ | .rep _ => false

/-- Where an instruction stores, and how many bytes (`20_memory.md` R58); `none` if it stores nothing. -/
def storeSpan (s : State) : Instr → Option (Word × Nat)
  | .stRR _ ra rb => some (s.indexedAddress ra rb, 4)
  | .stD9 _ ra disp => some (s.baseAddress ra disp, 4)
  | .stD23 _ ra disp => some (s.baseAddress ra disp, 4)
  | .stD36 _ ra disp => some (s.baseAddress ra disp, 4)
  | .stb _ ra disp => some (s.baseAddress ra disp, 1)
  | .jsrAbs _ | .jsrReg _ | .php | .psh _ => some (s.readReg regSp - 4#52, 4)
  | .nmi | .irq | .brk _ => some (s.readReg regSp - 8#52, 8)
  | .rst => if s.cfg.rstPushes then some (s.readReg regSp - 8#52, 8) else none
  | .mvn | .mvp | .sts => some (s.readReg regY, 4)
  | .mvnb | .mvpb | .stsb => some (s.readReg regY, 1)
  | .addRR _ _ _ | .addI9 _ _ _ | .addI23 _ _ _ | .addI36 _ _ _ | .cmpRR _ _ | .cmpI9 _ _ | .cmpI23 _ _
  | .cmpI36 _ _ | .subRR _ _ _ | .subI9 _ _ _ | .subI23 _ _ _ | .subI36 _ _ _ | .bitRR _ _ | .bitI9 _ _
  | .bitI23 _ _ | .bitI36 _ _ | .andRR _ _ _ | .andI9 _ _ _ | .andI23 _ _ _ | .andI36 _ _ _ | .orRR _ _ _
  | .orI9 _ _ _ | .orI23 _ _ _ | .orI36 _ _ _ | .eorRR _ _ _ | .eorI9 _ _ _ | .eorI23 _ _ _ | .eorI36 _ _ _
  | .ldRR _ _ _ | .ldD9 _ _ _ | .ldD23 _ _ _ | .ldD36 _ _ _ | .ldb _ _ _ | .aslRR _ _ _ | .aslI6 _ _ _
  | .rolRR _ _ _ | .rolI6 _ _ _ | .lsrRR _ _ _ | .lsrI6 _ _ _ | .rorRR _ _ _ | .rorI6 _ _ _ | .jmpAbs _
  | .jmpReg _ | .rts | .rti | .pfi | .wai | .stp | .nop | .beqD4 _ | .bneD4 _ | .bplD4 _ | .bmiD4 _ | .bvsD4 _
  | .bvcD4 _ | .bcsD4 _ | .bccD4 _ | .beqD17 _ | .bneD17 _ | .bplD17 _ | .bmiD17 _ | .bvsD17 _ | .bvcD17 _
  | .bcsD17 _ | .bccD17 _ | .braD4 _ | .braD17 _ | .plp | .pop _ | .sep _ | .rep _ | .cmpsb | .cmps => none

/-! ## Which data an instruction reads and stores -/

/-- The words a trap entry accesses: the two it pushes, if it pushes, and its vector (`60_exceptions.md` R320). -/
def trapAccesses (s : State) (kind : TrapKind) : List Word :=
  if trapPushes s.cfg kind then [s.readReg regSp - 4#52, s.readReg regSp - 8#52, trapVector s.cfg kind]
  else [trapVector s.cfg kind]

/-- The addresses of the words an instruction accesses as data (`20_memory.md` R58). -/
def wordsAccessed (s : State) : Instr → List Word
  | .ldRR _ ra rb => [s.indexedAddress ra rb]
  | .stRR _ ra rb => [s.indexedAddress ra rb]
  | .ldD9 _ ra disp => [s.baseAddress ra disp]
  | .ldD23 _ ra disp => [s.baseAddress ra disp]
  | .ldD36 _ ra disp => [s.baseAddress ra disp]
  | .stD9 _ ra disp => [s.baseAddress ra disp]
  | .stD23 _ ra disp => [s.baseAddress ra disp]
  | .stD36 _ ra disp => [s.baseAddress ra disp]
  | .jsrAbs _ | .jsrReg _ | .php | .psh _ => [s.readReg regSp - 4#52]
  | .rts | .plp | .pop _ => [s.readReg regSp]
  | .rti => [s.readReg regSp, s.readReg regSp + 4#52]
  | .nmi => trapAccesses s .nmi
  | .irq => trapAccesses s .irq
  | .brk _ => trapAccesses s .brk
  | .rst => trapAccesses s .rst
  | .mvn | .mvp | .cmps => [s.readReg regX, s.readReg regY]
  | .sts => [s.readReg regY]
  | .addRR _ _ _ | .addI9 _ _ _ | .addI23 _ _ _ | .addI36 _ _ _ | .cmpRR _ _ | .cmpI9 _ _ | .cmpI23 _ _
  | .cmpI36 _ _ | .subRR _ _ _ | .subI9 _ _ _ | .subI23 _ _ _ | .subI36 _ _ _ | .bitRR _ _ | .bitI9 _ _
  | .bitI23 _ _ | .bitI36 _ _ | .andRR _ _ _ | .andI9 _ _ _ | .andI23 _ _ _ | .andI36 _ _ _ | .orRR _ _ _
  | .orI9 _ _ _ | .orI23 _ _ _ | .orI36 _ _ _ | .eorRR _ _ _ | .eorI9 _ _ _ | .eorI23 _ _ _
  | .eorI36 _ _ _ | .ldb _ _ _ | .stb _ _ _ | .aslRR _ _ _ | .aslI6 _ _ _ | .rolRR _ _ _ | .rolI6 _ _ _
  | .lsrRR _ _ _ | .lsrI6 _ _ _ | .rorRR _ _ _ | .rorI6 _ _ _ | .jmpAbs _ | .jmpReg _ | .pfi | .wai | .stp
  | .nop | .beqD4 _ | .bneD4 _ | .bplD4 _ | .bmiD4 _ | .bvsD4 _ | .bvcD4 _ | .bcsD4 _ | .bccD4 _
  | .beqD17 _ | .bneD17 _ | .bplD17 _ | .bmiD17 _ | .bvsD17 _ | .bvcD17 _ | .bcsD17 _ | .bccD17 _
  | .braD4 _ | .braD17 _ | .sep _ | .rep _ | .mvnb | .mvpb | .stsb | .cmpsb => []

/-- The addresses of the bytes an instruction accesses as data, one by one (`20_memory.md` R58). -/
def bytesAccessed (s : State) : Instr → List Word
  | .ldb _ ra disp => [s.baseAddress ra disp]
  | .stb _ ra disp => [s.baseAddress ra disp]
  | .mvnb | .mvpb | .cmpsb => [s.readReg regX, s.readReg regY]
  | .stsb => [s.readReg regY]
  | .addRR _ _ _ | .addI9 _ _ _ | .addI23 _ _ _ | .addI36 _ _ _ | .cmpRR _ _ | .cmpI9 _ _ | .cmpI23 _ _
  | .cmpI36 _ _ | .subRR _ _ _ | .subI9 _ _ _ | .subI23 _ _ _ | .subI36 _ _ _ | .bitRR _ _ | .bitI9 _ _
  | .bitI23 _ _ | .bitI36 _ _ | .andRR _ _ _ | .andI9 _ _ _ | .andI23 _ _ _ | .andI36 _ _ _ | .orRR _ _ _
  | .orI9 _ _ _ | .orI23 _ _ _ | .orI36 _ _ _ | .eorRR _ _ _ | .eorI9 _ _ _ | .eorI23 _ _ _
  | .eorI36 _ _ _ | .ldRR _ _ _ | .ldD9 _ _ _ | .ldD23 _ _ _ | .ldD36 _ _ _ | .stRR _ _ _ | .stD9 _ _ _
  | .stD23 _ _ _ | .stD36 _ _ _ | .aslRR _ _ _ | .aslI6 _ _ _ | .rolRR _ _ _ | .rolI6 _ _ _ | .lsrRR _ _ _
  | .lsrI6 _ _ _ | .rorRR _ _ _ | .rorI6 _ _ _ | .jmpAbs _ | .jsrAbs _ | .jmpReg _ | .jsrReg _ | .rts
  | .rti | .pfi | .wai | .stp | .nop | .beqD4 _ | .bneD4 _ | .bplD4 _ | .bmiD4 _ | .bvsD4 _ | .bvcD4 _
  | .bcsD4 _ | .bccD4 _ | .beqD17 _ | .bneD17 _ | .bplD17 _ | .bmiD17 _ | .bvsD17 _ | .bvcD17 _
  | .bcsD17 _ | .bccD17 _ | .braD4 _ | .braD17 _ | .rst | .nmi | .irq | .brk _ | .php | .psh _ | .plp
  | .pop _ | .sep _ | .rep _ | .mvn | .mvp | .sts | .cmps => []

/-- The configuration allows every data access of an instruction (`20_memory.md` R57, R65). -/
abbrev AccessesAllowed (s : State) (i : Instr) : Prop :=
  (∀ a ∈ wordsAccessed s i, WordAccessible s.cfg a) ∧ ∀ a ∈ bytesAccessed s i, ByteAccessible s.cfg a

/-- A refusal says what is wrong with an access of the instruction: a byte of it stands in a window, or a word is
misaligned where that is not allowed (log entries 9 and 11). -/
def RefusalExplained (s : State) (i : Instr) (w : Refusal) : Prop :=
  (w = .notPlainMemory ∧
    ((∃ a ∈ wordsAccessed s i, ∃ k < 4, ¬ ByteAccessible s.cfg (a + BitVec.ofNat 52 k)) ∨
      ∃ a ∈ bytesAccessed s i, ¬ ByteAccessible s.cfg a)) ∨
    (w = .misalignedWord ∧ s.cfg.misalignedOk = false ∧ ∃ a ∈ wordsAccessed s i, a.toNat % 4 ≠ 0)

/-! ## Repeated execution -/

/-- An instruction executed `n` times in a row, pc aside: what a string instruction that repeats does
(`46_string.md` R261). -/
def execTimes (i : Instr) : Nat → State → Result
  | 0, s => .next s
  | n + 1, s =>
    match exec i s with
    | .next t => execTimes i n t
    | .fault f => .fault f
    | .refused r => .refused r

end Sys2Proof.Machine
end

