-- ==== Sys2Proof/Certificates/Slice0/Obligations.lean ====
section
/-! DEFINITION. The statements about the model, in the order of `OBLIGATIONS.json`. A docstring names the rules
of `spec/` a statement formalises. Nearly every rule of this spec is marked there as the spec's own decision; a
statement that rests on one holds for every value of the parameter the decision fixes. -/

open Sys2Proof Sys2Proof.Machine

/-! ## Encoding -/

/-- `30_encoding.md` R83 to R92, R96: whatever follows the encoding of a well-formed instruction, decoding the
bytes gives the instruction back, every operand at every value. (Spec decision: D2.) -/
def Obligations.DecodeInvertsEncode : Prop :=
  ∀ (swap : Bool) (i : Instr) (rest : List Byte),
    i.wellFormed = true → decode swap (encode swap i ++ rest) = .ok i

/-- `30_encoding.md` R96, R99: a word decodes to an instruction exactly if the instruction is well-formed and the
word is its encoding in every bit that is not unused. (Spec decisions: D18, D28, D29.) -/
def Obligations.DecodesExactlyTheEncodings : Prop :=
  ∀ (swap : Bool) (w : Word) (i : Instr),
    decodeWord swap w = .ok i ↔
      i.wellFormed = true ∧ ∀ k < 52, isUnusedBit i k = false → w.getLsbD k = (encodeWord swap i).getLsbD k

/-- `30_encoding.md` R82: the length table, by the two octal digits of the opcode, and the length of every
decoded instruction is the one the table gives for bits 5..0 of its first byte. The two-byte length of 35o is the
spec's inference (log entry 18). (Spec decision: D18.) -/
def Obligations.LengthByOpcode : Prop :=
  (∀ (swap : Bool) (first : Byte) (rest : List Byte) (i : Instr), decode swap (first :: rest) = .ok i →
    opcodeLength (first.extractLsb' 0 6) = some i.length) ∧
  ∀ op : BitVec 6,
    opcodeLength op =
      if op.toNat ∈ [0o00, 0o10, 0o30, 0o40, 0o50, 0o60, 0o70, 0o06, 0o16, 0o26, 0o36, 0o15, 0o35] then some 2
      else if op.toNat ∈ [0o01, 0o11, 0o31, 0o41, 0o51, 0o61, 0o71] then some 3
      else if op.toNat ∈ [0o02, 0o12, 0o32, 0o42, 0o52, 0o62, 0o72, 0o04, 0o14, 0o64, 0o74] then some 4
      else if op.toNat ∈ [0o44, 0o54, 0o24, 0o34, 0o05, 0o25, 0o45, 0o65, 0o75, 0o46, 0o56, 0o66, 0o76] then some 1
      else none

/-- `30_encoding.md` R94: bit 25 selects the register or the short immediate form of the seven 2-byte opcodes and
of the four shifts; the 3- and 4-byte opcodes have the immediate form only. -/
def Obligations.Bit25SelectsTheForm : Prop :=
  ∀ (swap : Bool) (w : Word) (i : Instr), decodeWord swap w = .ok i →
    ((field w 0 6).toNat ∈ [0o00, 0o10, 0o30, 0o40, 0o50, 0o60, 0o70] →
      operandForm i = some (if w.getLsbD 25 then .imm9 (field w 16 9) else .register (field w 16 5))) ∧
    ((field w 0 6).toNat ∈ [0o06, 0o16, 0o26, 0o36] →
      operandForm i = some (if w.getLsbD 25 then .count6 (field w 16 6) else .register (field w 16 5))) ∧
    ((field w 0 6).toNat ∈ [0o01, 0o11, 0o31, 0o41, 0o51, 0o61, 0o71] → operandForm i = some (.imm23 (field w 16 23))) ∧
    ((field w 0 6).toNat ∈ [0o02, 0o12, 0o32, 0o42, 0o52, 0o62, 0o72, 0o64, 0o74] →
      operandForm i = some (.imm36 (field w 16 36)))

/-- `30_encoding.md` R95: under the opcodes of SUB a target field of 0 makes the instruction CMP, and under those
of AND it makes it BIT; nothing else decodes to CMP or BIT. -/
def Obligations.TargetZeroSelectsCmpAndBit : Prop :=
  ∀ (swap : Bool) (w : Word) (i : Instr), decodeWord swap w = .ok i →
    (targetFamily i = .cmp ↔ (field w 0 6).toNat ∈ [0o10, 0o11, 0o12] ∧ field w 6 5 = 0#5) ∧
    (targetFamily i = .sub ↔ (field w 0 6).toNat ∈ [0o10, 0o11, 0o12] ∧ field w 6 5 ≠ 0#5) ∧
    (targetFamily i = .bit ↔ (field w 0 6).toNat ∈ [0o30, 0o31, 0o32] ∧ field w 6 5 = 0#5) ∧
    (targetFamily i = .and ↔ (field w 0 6).toNat ∈ [0o30, 0o31, 0o32] ∧ field w 6 5 ≠ 0#5)

/-- `30_encoding.md` R81, R98, `60_exceptions.md` R312: where the fetched bytes may be read, the fetch faults as
an illegal opcode exactly for the unassigned encodings. (Spec decisions: D18, D28.) -/
def Obligations.UnassignedEncodingsFault : Prop :=
  ∀ s : State, (∀ k < 4, s.fetchStop (s.pc + BitVec.ofNat 52 k) = none) →
    (s.fetch = .fault .illegalOpcode ↔
      isUnassigned ((byteAt s.fetchMemory s.pc.toNat).extractLsb' 0 6).toNat
        ((byteAt s.fetchMemory s.pc.toNat).extractLsb' 6 3).toNat = true)

/-- Words of `95_test_vectors.md` decode to the instructions it writes beside them. -/
def Obligations.SpecWordsDecode : Prop :=
  decodeTableWord 26 0x0062900 = some (.addRR 4 5 6) ∧ decodeTableWord 26 0x3002900 = some (.addI9 4 5 (-256)) ∧
    decodeTableWord 26 0x2072808 = some (.cmpI9 5 7) ∧ decodeTableWord 26 0x2082930 = some (.ldD9 4 5 8) ∧
    decodeTableWord 26 0x0062938 = some (.stRR 4 5 6) ∧ decodeTableWord 26 0x201290E = some (.rolI6 4 5 1) ∧
    decodeTableWord 52 0x048D159E26AC4 = some (.jmpAbs 0x123456789AB) ∧ decodeTableWord 13 0x0ADC = some (.brk 5) ∧
    decodeTableWord 26 0x3FDA81D = some (.braD17 (-300)) ∧ decodeTableWord 13 0x0866 = some (.sep 0x21) ∧
    decodeTableWord 13 0x00B6 = some (.pop 2) ∧ decodeTableWord 13 0x01E5 = some .cmps

/-! ## Fetch and step -/

/-- `00_scope.md` R14, `30_encoding.md` R81: where a boundary executes, the bytes at pc may be fetched and they
decode to an instruction, the step is the execution of that instruction, the boundary's requests being used up.
(Spec decisions: D25, D33, D38.) -/
def Obligations.StepRunsDecodedInstruction : Prop :=
  ∀ (s : State) (i : Instr), s.boundary = .execute →
    (∀ k < i.length, s.fetchStop (s.pc + BitVec.ofNat 52 k) = none) →
    decode s.cfg.swapRolLsr (bytesFrom s.fetchMemory s.pc i.length) = .ok i →
    step s = exec i s.takeRequests

/-- `20_memory.md` R70: fetching an instruction one of whose bytes the program has stored to since reset faults,
unless the configuration makes the fetch coherent or the code has a space of its own. (Spec decisions: D5, D34.) -/
def Obligations.FetchFromWrittenFaults : Prop :=
  ∀ (s : State) (i : Instr) (k : Nat), s.boundary = .execute → s.cfg.unifiedMemory = true →
    (∀ j < i.length, ByteAccessible s.cfg (s.pc + BitVec.ofNat 52 j)) →
    decode s.cfg.swapRolLsr (bytesFrom s.mem s.pc i.length) = .ok i → k < i.length →
    (s.pc + BitVec.ofNat 52 k).toNat ∈ s.written →
    step s = if s.cfg.ifetchCoherent then exec i s.takeRequests else .fault .fetchFromWritten

/-- `60_exceptions.md` R330, R332, `70_reset_and_hazards.md` R350: at a boundary the first of these that applies:
reset, stopped, nmi, unmasked irq, the wake or the wait of a waiting core; else a running core fetches and
executes. (Spec decisions: D25, D26, D40.) -/
def Obligations.BoundaryPriority : Prop :=
  ∀ s : State,
    (s.requests.rst = true → step s = takeTrap .rst s.pc s.takeRequests) ∧
    (s.requests.rst = false → s.run = .stopped → step s = .next s.takeRequests) ∧
    (s.requests.rst = false → s.run ≠ .stopped → s.requests.nmi = true →
      step s = takeTrap .nmi s.pc s.takeRequests) ∧
    (s.requests.rst = false → s.run ≠ .stopped → s.requests.nmi = false → s.requests.irq = true → s.sr.i = false →
      step s = takeTrap .irq s.pc s.takeRequests) ∧
    (s.requests.rst = false → s.run = .waiting → s.requests.nmi = false → s.requests.irq = true → s.sr.i = true →
      step s = .next { s.takeRequests with run := .running }) ∧
    (s.requests.rst = false → s.run = .waiting → s.requests.nmi = false → s.requests.irq = false →
      step s = .next s.takeRequests) ∧
    (s.requests.rst = false → s.run = .running → s.requests.nmi = false → s.requests.irq = false ∨ s.sr.i = true →
      s.boundary = .execute ∧ step s = s.takeRequests.fetchAndExecute)

/-! ## Registers and memory -/

/-- `10_state.md` R21: R0 reads as zero in every state, and an instruction whose target is R0 does exactly what
it does with another target, but for the register written. -/
def Obligations.RegisterZeroIsHardwired : Prop :=
  (∀ s : State, s.readReg 0#5 = 0#52) ∧
  ∀ (s : State) (rt ra rb : RegNo) (i9 : BitVec 9) (i23 : BitVec 23) (i36 : BitVec 36) (i6 : BitVec 6),
    ∀ f ∈ ([fun r => .addRR r ra rb, fun r => .addI9 r ra i9, fun r => .addI23 r ra i23, fun r => .addI36 r ra i36,
        fun r => .orRR r ra rb, fun r => .orI9 r ra i9, fun r => .orI23 r ra i23, fun r => .orI36 r ra i36,
        fun r => .eorRR r ra rb, fun r => .eorI9 r ra i9, fun r => .eorI23 r ra i23, fun r => .eorI36 r ra i36,
        fun r => .ldRR r ra rb, fun r => .ldD9 r ra i9, fun r => .ldD23 r ra i23, fun r => .ldD36 r ra i36,
        fun r => .ldb r ra i36, fun r => .aslRR r ra rb, fun r => .aslI6 r ra i6, fun r => .rolRR r ra rb,
        fun r => .rolI6 r ra i6, fun r => .lsrRR r ra rb, fun r => .lsrI6 r ra i6, fun r => .rorRR r ra rb,
        fun r => .rorI6 r ra i6, fun r => .pop r] : List (RegNo → Instr)),
      (∃ t v, exec (f 0#5) s = .next t ∧ exec (f rt) s = .next (t.writeReg rt v)) ∨
        ∃ r, exec (f 0#5) s = .refused r ∧ exec (f rt) s = .refused r

/-- `20_memory.md` R53, R54: a word is the sum of its four bytes by their significance, a store sets those four
bytes and no other, and no read changes anything. (Spec decisions: D1, D2, D3, D4.) -/
def Obligations.WordsAreFourBytes : Prop :=
  ∀ (s : State) (a v : Word),
    (s.loadWord a).toNat = memWord s a ∧ HoldsWord (s.storeWord a v) a v.toNat ∧ memWord (s.storeWord a v) a = v.toNat ∧
      StoresOnly s (s.storeWord a v) a 4

/-- `30_encoding.md` R93, `41_load_store.md` R141, `20_memory.md` R64: the two addressing modes, modulo 2^52,
with the displacement extended as the configuration says. (Spec decisions: D4, D6, D11.) -/
def Obligations.EffectiveAddresses : Prop :=
  ∀ (s : State) (ra rb : RegNo) (d9 : BitVec 9) (d23 : BitVec 23) (d36 : BitVec 36),
    (s.indexedAddress ra rb).toNat = ((s.readReg ra).toNat + (s.readReg rb).toNat) % 2 ^ 52 ∧
    (s.baseAddress ra d9).toNat = ((s.readReg ra).toNat + extendedValue s.cfg.immExt d9) % 2 ^ 52 ∧
    (s.baseAddress ra d23).toNat = ((s.readReg ra).toNat + extendedValue s.cfg.immExt d23) % 2 ^ 52 ∧
    (s.baseAddress ra d36).toNat = ((s.readReg ra).toNat + extendedValue s.cfg.immExt d36) % 2 ^ 52

/-! ## Arithmetic and logic -/

/-- `40_arith_logic.md` R120 to R123, `10_state.md` R25, R28, R30: ADD in its four forms. (Spec decisions: D6,
D7, D8.) -/
def Obligations.AddAddsAndSetsFlags : Prop :=
  ∀ (s : State) (rt ra rb : RegNo) (i9 : BitVec 9) (i23 : BitVec 23) (i36 : BitVec 36),
    (∃ t, exec (.addRR rt ra rb) s = .next t ∧ AddDone s t rt (s.readReg ra).toNat (s.readReg rb).toNat 2) ∧
    (∃ t, exec (.addI9 rt ra i9) s = .next t ∧
      AddDone s t rt (s.readReg ra).toNat (extendedValue s.cfg.immExt i9) 2) ∧
    (∃ t, exec (.addI23 rt ra i23) s = .next t ∧
      AddDone s t rt (s.readReg ra).toNat (extendedValue s.cfg.immExt i23) 3) ∧
    (∃ t, exec (.addI36 rt ra i36) s = .next t ∧
      AddDone s t rt (s.readReg ra).toNat (extendedValue s.cfg.immExt i36) 4)

/-- `40_arith_logic.md` R120 to R122, R124: SUB in its four forms, whose target is not R0. (Spec decisions: D6,
D7, D8, D9.) -/
def Obligations.SubSubtractsAndSetsFlags : Prop :=
  ∀ (s : State) (rt ra rb : RegNo) (i9 : BitVec 9) (i23 : BitVec 23) (i36 : BitVec 36), rt ≠ 0#5 →
    (∃ t, exec (.subRR rt ra rb) s = .next t ∧ SubDone s t rt (s.readReg ra).toNat (s.readReg rb).toNat 2) ∧
    (∃ t, exec (.subI9 rt ra i9) s = .next t ∧
      SubDone s t rt (s.readReg ra).toNat (extendedValue s.cfg.immExt i9) 2) ∧
    (∃ t, exec (.subI23 rt ra i23) s = .next t ∧
      SubDone s t rt (s.readReg ra).toNat (extendedValue s.cfg.immExt i23) 3) ∧
    (∃ t, exec (.subI36 rt ra i36) s = .next t ∧
      SubDone s t rt (s.readReg ra).toNat (extendedValue s.cfg.immExt i36) 4)

/-- `40_arith_logic.md` R120 to R122, R125: CMP in its four forms. (Spec decisions: D6, D8, D9.) -/
def Obligations.CmpComparesAndKeepsV : Prop :=
  ∀ (s : State) (ra rb : RegNo) (i9 : BitVec 9) (i23 : BitVec 23) (i36 : BitVec 36),
    (∃ t, exec (.cmpRR ra rb) s = .next t ∧ CmpDone s t (s.readReg ra).toNat (s.readReg rb).toNat 2) ∧
    (∃ t, exec (.cmpI9 ra i9) s = .next t ∧ CmpDone s t (s.readReg ra).toNat (extendedValue s.cfg.immExt i9) 2) ∧
    (∃ t, exec (.cmpI23 ra i23) s = .next t ∧ CmpDone s t (s.readReg ra).toNat (extendedValue s.cfg.immExt i23) 3) ∧
    (∃ t, exec (.cmpI36 ra i36) s = .next t ∧ CmpDone s t (s.readReg ra).toNat (extendedValue s.cfg.immExt i36) 4)

/-- `40_arith_logic.md` R120, R127: BIT in its four forms. (Spec decisions: D6, D8.) -/
def Obligations.BitTestsTheAnd : Prop :=
  ∀ (s : State) (ra rb : RegNo) (i9 : BitVec 9) (i23 : BitVec 23) (i36 : BitVec 36),
    (∃ t, exec (.bitRR ra rb) s = .next t ∧ BitDone s t (s.readReg ra).toNat (s.readReg rb).toNat 2) ∧
    (∃ t, exec (.bitI9 ra i9) s = .next t ∧ BitDone s t (s.readReg ra).toNat (extendedValue s.cfg.immExt i9) 2) ∧
    (∃ t, exec (.bitI23 ra i23) s = .next t ∧ BitDone s t (s.readReg ra).toNat (extendedValue s.cfg.immExt i23) 3) ∧
    (∃ t, exec (.bitI36 ra i36) s = .next t ∧ BitDone s t (s.readReg ra).toNat (extendedValue s.cfg.immExt i36) 4)

/-- `40_arith_logic.md` R120, R126: AND in its four forms, whose target is not R0. (Spec decisions: D6, D8.) -/
def Obligations.AndWritesTheConjunction : Prop :=
  ∀ (s : State) (rt ra rb : RegNo) (i9 : BitVec 9) (i23 : BitVec 23) (i36 : BitVec 36), rt ≠ 0#5 →
    (∃ t, exec (.andRR rt ra rb) s = .next t ∧ ValueDone s t rt ((s.readReg ra).toNat &&& (s.readReg rb).toNat) 2) ∧
    (∃ t, exec (.andI9 rt ra i9) s = .next t ∧
      ValueDone s t rt ((s.readReg ra).toNat &&& extendedValue s.cfg.immExt i9) 2) ∧
    (∃ t, exec (.andI23 rt ra i23) s = .next t ∧
      ValueDone s t rt ((s.readReg ra).toNat &&& extendedValue s.cfg.immExt i23) 3) ∧
    (∃ t, exec (.andI36 rt ra i36) s = .next t ∧
      ValueDone s t rt ((s.readReg ra).toNat &&& extendedValue s.cfg.immExt i36) 4)

/-- `40_arith_logic.md` R120, R128, R129: OR and EOR in their four forms. (Spec decisions: D6, D8.) -/
def Obligations.OrAndEorWriteTheirResult : Prop :=
  ∀ (s : State) (rt ra rb : RegNo) (i9 : BitVec 9) (i23 : BitVec 23) (i36 : BitVec 36),
    (∃ t, exec (.orRR rt ra rb) s = .next t ∧ ValueDone s t rt ((s.readReg ra).toNat ||| (s.readReg rb).toNat) 2) ∧
    (∃ t, exec (.orI9 rt ra i9) s = .next t ∧
      ValueDone s t rt ((s.readReg ra).toNat ||| extendedValue s.cfg.immExt i9) 2) ∧
    (∃ t, exec (.orI23 rt ra i23) s = .next t ∧
      ValueDone s t rt ((s.readReg ra).toNat ||| extendedValue s.cfg.immExt i23) 3) ∧
    (∃ t, exec (.orI36 rt ra i36) s = .next t ∧
      ValueDone s t rt ((s.readReg ra).toNat ||| extendedValue s.cfg.immExt i36) 4) ∧
    (∃ t, exec (.eorRR rt ra rb) s = .next t ∧ ValueDone s t rt ((s.readReg ra).toNat ^^^ (s.readReg rb).toNat) 2) ∧
    (∃ t, exec (.eorI9 rt ra i9) s = .next t ∧
      ValueDone s t rt ((s.readReg ra).toNat ^^^ extendedValue s.cfg.immExt i9) 2) ∧
    (∃ t, exec (.eorI23 rt ra i23) s = .next t ∧
      ValueDone s t rt ((s.readReg ra).toNat ^^^ extendedValue s.cfg.immExt i23) 3) ∧
    (∃ t, exec (.eorI36 rt ra i36) s = .next t ∧
      ValueDone s t rt ((s.readReg ra).toNat ^^^ extendedValue s.cfg.immExt i36) 4)

/-! ## Loads and stores -/

/-- `41_load_store.md` R141, R142: LD in its four forms. (Spec decisions: D1, D2, D3, D4, D6, D8, D11.) -/
def Obligations.LoadWordLoads : Prop :=
  ∀ (s : State) (rt ra rb : RegNo) (d9 : BitVec 9) (d23 : BitVec 23) (d36 : BitVec 36),
    (WordAccessible s.cfg (s.indexedAddress ra rb) →
      ∃ t, exec (.ldRR rt ra rb) s = .next t ∧ ValueDone s t rt (memWord s (s.indexedAddress ra rb)) 2) ∧
    (WordAccessible s.cfg (s.baseAddress ra d9) →
      ∃ t, exec (.ldD9 rt ra d9) s = .next t ∧ ValueDone s t rt (memWord s (s.baseAddress ra d9)) 2) ∧
    (WordAccessible s.cfg (s.baseAddress ra d23) →
      ∃ t, exec (.ldD23 rt ra d23) s = .next t ∧ ValueDone s t rt (memWord s (s.baseAddress ra d23)) 3) ∧
    (WordAccessible s.cfg (s.baseAddress ra d36) →
      ∃ t, exec (.ldD36 rt ra d36) s = .next t ∧ ValueDone s t rt (memWord s (s.baseAddress ra d36)) 4)

/-- `41_load_store.md` R143, R145: LDB loads one byte, extended as the configuration says; STB stores bits 12..0
of the register to one byte. (Spec decisions: D4, D6, D8, D10, D11.) -/
def Obligations.BytesLoadAndStore : Prop :=
  ∀ (s : State) (r ra : RegNo) (d36 : BitVec 36), ByteAccessible s.cfg (s.baseAddress ra d36) →
    (∃ t, exec (.ldb r ra d36) s = .next t ∧
      ValueDone s t r (extendedValue s.cfg.ldbExt (s.loadByte (s.baseAddress ra d36))) 4) ∧
    (∃ t, exec (.stb r ra d36) s = .next t ∧
      (t.loadByte (s.baseAddress ra d36)).toNat = (s.readReg r).toNat % 2 ^ 13 ∧ PcAdvanced s t 4 ∧
      StoreFrame s t [] [] (s.baseAddress ra d36) 1)

/-- `41_load_store.md` R141, R144: ST in its four forms. (Spec decisions: D1, D2, D3, D4, D6, D11.) -/
def Obligations.StoreWordStores : Prop :=
  ∀ (s : State) (rs ra rb : RegNo) (d9 : BitVec 9) (d23 : BitVec 23) (d36 : BitVec 36),
    (WordAccessible s.cfg (s.indexedAddress ra rb) →
      ∃ t, exec (.stRR rs ra rb) s = .next t ∧ StoreDone s t rs (s.indexedAddress ra rb) 2) ∧
    (WordAccessible s.cfg (s.baseAddress ra d9) →
      ∃ t, exec (.stD9 rs ra d9) s = .next t ∧ StoreDone s t rs (s.baseAddress ra d9) 2) ∧
    (WordAccessible s.cfg (s.baseAddress ra d23) →
      ∃ t, exec (.stD23 rs ra d23) s = .next t ∧ StoreDone s t rs (s.baseAddress ra d23) 3) ∧
    (WordAccessible s.cfg (s.baseAddress ra d36) →
      ∃ t, exec (.stD36 rs ra d36) s = .next t ∧ StoreDone s t rs (s.baseAddress ra d36) 4)

/-- `20_memory.md` R57, R58, R65: an instruction, be it a load, a store or one that accesses the stack, a string
or a vector, is refused exactly if the configuration does not allow one of its data accesses, with a name that
says why; the default configuration refuses none, and where every access is allowed every instruction but PFI
completes. The two refusals are the model's (log entries 9 and 11), and so is that a refused instruction is
refused as a whole (log entry 38). (Spec decisions: D3, D27, D38.) -/
def Obligations.DisallowedAccessesAreRefused : Prop :=
  ∀ (s : State) (i : Instr),
    (AccessesAllowed s i → (i = .pfi → s.cfg.pfi = .nop) → ∃ t, exec i s = .next t) ∧
    (¬ AccessesAllowed s i → ∃ w, exec i s = .refused w ∧ RefusalExplained s i w) ∧
    (s.cfg.memMap = [] → s.cfg.misalignedOk = true → AccessesAllowed s i)

/-- `20_memory.md` R55, R66: what ST stores, in each of its four forms, LD reads back from the same operands and
LDB reads byte by byte. (Spec decisions: D1, D2, D3, D4, D6, D11, D33.) -/
def Obligations.LoadAfterStoreReadsIt : Prop :=
  ∀ (s t : State) (rs ra rx rt : RegNo) (d9 : BitVec 9) (d23 : BitVec 23) (d36 : BitVec 36), rt ≠ 0#5 →
    ∀ x ∈ ([(.stRR rs ra rx, .ldRR rt ra rx, s.indexedAddress ra rx), (.stD9 rs ra d9, .ldD9 rt ra d9, s.baseAddress ra d9),
        (.stD23 rs ra d23, .ldD23 rt ra d23, s.baseAddress ra d23),
        (.stD36 rs ra d36, .ldD36 rt ra d36, s.baseAddress ra d36)] : List (Instr × Instr × Word)),
      exec x.1 s = .next t →
        (∃ u, exec x.2.1 t = .next u ∧ u.readReg rt = s.readReg rs) ∧
        ∀ k < 4, ∀ (rc : RegNo) (e : BitVec 36), t.baseAddress rc e = x.2.2 + BitVec.ofNat 52 k →
          ∃ u, exec (.ldb rt rc e) t = .next u ∧
            (u.readReg rt).toNat % 2 ^ 13 = (s.readReg rs).toNat / 2 ^ (13 * significance s.cfg k) % 2 ^ 13

/-! ## Shifts and rotates -/

/-- `42_shift.md` R160, R161, R163, R165: ASL and LSR in their closed forms, for every count. (Spec decisions:
D8, D12.) -/
def Obligations.ShiftsInClosedForm : Prop :=
  ∀ (s : State) (rt ra rb : RegNo) (n : BitVec 6),
    (∃ t, exec (.aslRR rt ra rb) s = .next t ∧
      ShiftDone s t rt (aslValue (s.readReg ra).toNat (countIn s rb))
        (AslCarry s.sr.c (s.readReg ra).toNat (countIn s rb))) ∧
    (∃ t, exec (.aslI6 rt ra n) s = .next t ∧
      ShiftDone s t rt (aslValue (s.readReg ra).toNat n.toNat) (AslCarry s.sr.c (s.readReg ra).toNat n.toNat)) ∧
    (∃ t, exec (.lsrRR rt ra rb) s = .next t ∧
      ShiftDone s t rt (lsrValue (s.readReg ra).toNat (countIn s rb))
        (LsrCarry s.sr.c (s.readReg ra).toNat (countIn s rb))) ∧
    (∃ t, exec (.lsrI6 rt ra n) s = .next t ∧
      ShiftDone s t rt (lsrValue (s.readReg ra).toNat n.toNat) (LsrCarry s.sr.c (s.readReg ra).toNat n.toNat))

/-- `42_shift.md` R160, R161, R164, R166: ROL and ROR are rotations of 53 bits, or of 52. (Spec decisions: D8,
D12, D13.) -/
def Obligations.RotatesInClosedForm : Prop :=
  ∀ (s : State) (rt ra rb : RegNo) (n : BitVec 6),
    (∃ t, exec (.rolRR rt ra rb) s = .next t ∧ RolDone s t rt (s.readReg ra).toNat (countIn s rb)) ∧
    (∃ t, exec (.rolI6 rt ra n) s = .next t ∧ RolDone s t rt (s.readReg ra).toNat n.toNat) ∧
    (∃ t, exec (.rorRR rt ra rb) s = .next t ∧ RorDone s t rt (s.readReg ra).toNat (countIn s rb)) ∧
    (∃ t, exec (.rorI6 rt ra n) s = .next t ∧ RorDone s t rt (s.readReg ra).toNat n.toNat)

/-! ## Flow control -/

/-- `43_flow_control.md` R181, R182: JMP. (Spec decisions: D14, D15.) -/
def Obligations.JumpsGoToTheirTarget : Prop :=
  ∀ (s : State) (addr : BitVec 46) (ra : RegNo),
    (∃ t, exec (.jmpAbs addr) s = .next t ∧ TransferDone s t (jumpTargetNumber s.cfg s.pc.toNat addr.toNat)) ∧
    (∃ t, exec (.jmpReg ra) s = .next t ∧ TransferDone s t (s.readReg ra).toNat)

/-- `43_flow_control.md` R183, R184: JSR pushes the address of the next instruction; the target of JSR [Ra] is
read before the push. (Spec decisions: D14, D15, D19, D31.) -/
def Obligations.CallsPushAndGo : Prop :=
  ∀ (s : State) (addr : BitVec 46) (ra : RegNo), WordAccessible s.cfg (s.readReg regSp - 4#52) →
    (∃ t, exec (.jsrAbs addr) s = .next t ∧ t.pc.toNat = jumpTargetNumber s.cfg s.pc.toNat addr.toNat ∧
      PushDone s t ((s.pc.toNat + 4) % 2 ^ 52)) ∧
    (∃ t, exec (.jsrReg ra) s = .next t ∧ t.pc = s.readReg ra ∧ PushDone s t ((s.pc.toNat + 1) % 2 ^ 52))

/-- `43_flow_control.md` R185: RTS pops pc, unchanged. (Spec decision: D19.) -/
def Obligations.RtsPopsPc : Prop :=
  ∀ s : State, WordAccessible s.cfg (s.readReg regSp) →
    ∃ t, exec .rts s = .next t ∧ t.pc.toNat = memWord s (s.readReg regSp) ∧ SpRaised s t 4 ∧ Frame s t [regSp] []

/-- `43_flow_control.md` R183 to R185: a subroutine that leaves sp and its return word alone, reached by either
JSR and left by RTS, comes back to the instruction after the JSR with sp as it was. (Spec decisions: D14, D15,
D19, D31.) -/
def Obligations.CallThenReturn : Prop :=
  ∀ (s t u : State) (i : Instr) (addr : BitVec 46) (ra : RegNo), i = .jsrAbs addr ∨ i = .jsrReg ra →
    exec i s = .next t → u.cfg = t.cfg → u.readReg regSp = t.readReg regSp →
    (∀ k < 4, u.loadByte (t.readReg regSp + BitVec.ofNat 52 k) = t.loadByte (t.readReg regSp + BitVec.ofNat 52 k)) →
    ∃ w, exec .rts u = .next w ∧ w.pc = s.pc + BitVec.ofNat 52 i.length ∧ w.readReg regSp = s.readReg regSp

/-- `43_flow_control.md` R186: RTI pops SR, then pc. (Spec decisions: D19, D20, D21.) -/
def Obligations.RtiPopsSrThenPc : Prop :=
  ∀ s : State, WordAccessible s.cfg (s.readReg regSp) → WordAccessible s.cfg (s.readReg regSp + 4#52) →
    ∃ t, exec .rti s = .next t ∧ FlagsFromImage s.cfg.srPos t.sr (memWord s (s.readReg regSp)) ∧
      t.pc.toNat = memWord s (s.readReg regSp + 4#52) ∧ SpRaised s t 8 ∧
      Frame s t [regSp] [.c, .z, .i, .d, .u, .v, .n, .b]

/-- `43_flow_control.md` R191 to R203: each conditional branch, in both lengths, is taken by its flag; BRA
always. (Spec decisions: D16, D17, D18.) -/
def Obligations.BranchesFollowTheirFlag : Prop :=
  ∀ (s : State) (d4 : BitVec 4) (d17 : BitVec 17),
    ∀ x ∈ ([(.beqD4 d4, .beqD17 d17, s.sr.z = true), (.bneD4 d4, .bneD17 d17, s.sr.z = false),
        (.bplD4 d4, .bplD17 d17, s.sr.n = false), (.bmiD4 d4, .bmiD17 d17, s.sr.n = true),
        (.bvsD4 d4, .bvsD17 d17, s.sr.v = true), (.bvcD4 d4, .bvcD17 d17, s.sr.v = false),
        (.bcsD4 d4, .bcsD17 d17, s.sr.c = true), (.bccD4 d4, .bccD17 d17, s.sr.c = false),
        (.braD4 d4, .braD17 d17, True)] :
        List (Instr × Instr × Prop)),
      (∃ t, exec x.1 s = .next t ∧ BranchDone s t x.2.2 1 d4.toInt) ∧
      (∃ t, exec x.2.1 s = .next t ∧ BranchDone s t x.2.2 2 d17.toInt)

/-- `43_flow_control.md` R188: NOP is one byte long, opcode 24o with function code 7, whatever its unused bits;
it moves pc to the next instruction and changes nothing else. That unused bits are ignored is the spec's decision
(log entry 25). (Spec decision: D29.) -/
def Obligations.NopOnlyAdvancesPc : Prop :=
  Instr.nop.length = 1 ∧
  (∀ (swap : Bool) (w : Word), decodeWord swap w = .ok .nop ↔ field w 0 6 = 0o24#6 ∧ field w 6 3 = 7#3) ∧
  ∀ s : State, ∃ t, exec .nop s = .next t ∧ PcAdvanced s t 1 ∧ Frame s t [] []

/-- `43_flow_control.md` R187: PFI under its two readings: it has no meaning and stops the run, or it is a
one-byte no-operation. (Spec decision: D27.) -/
def Obligations.PfiUnderItsTwoReadings : Prop :=
  ∀ s : State,
    (s.cfg.pfi = .nop → ∃ t, exec .pfi s = .next t ∧ PcAdvanced s t 1 ∧ Frame s t [] []) ∧
    (s.cfg.pfi = .refuse → exec .pfi s = .fault .noMeaning)

/-- `43_flow_control.md` R189, R190: WAI and STP advance pc and set the run state; every register, flag and byte
stays. (Spec decision: D26.) -/
def Obligations.WaiAndStpSetTheRunState : Prop :=
  ∀ s : State,
    (∃ t, exec .wai s = .next t ∧ PcAdvanced s t 1 ∧ t.run = .waiting ∧ KeepsRegs s t [] ∧ KeepsFlags s t [] ∧
      StoresNothing s t ∧ KeepsRest s t) ∧
    (∃ t, exec .stp s = .next t ∧ PcAdvanced s t 1 ∧ t.run = .stopped ∧ KeepsRegs s t [] ∧ KeepsFlags s t [] ∧
      StoresNothing s t ∧ KeepsRest s t)

/-! ## Traps -/

/-- `43_flow_control.md` R211 to R214, `60_exceptions.md` R320 to R322: NMI, IRQ and BRK as instructions. That
the pushed bytes count as stored to is the model's reading of R70 (log entry 28). (Spec decisions: D19, D21, D22,
D23, D24, D37.) -/
def Obligations.TrapInstructionsEnterTheirHandler : Prop :=
  ∀ (s : State) (const : BitVec 4), WordAccessible s.cfg (s.readReg regSp - 4#52) →
    WordAccessible s.cfg (s.readReg regSp - 8#52) →
    ∀ x ∈ ([(.nmi, .nmi), (.irq, .irq), (.brk const, .brk)] : List (Instr × TrapKind)),
      WordAccessible s.cfg (trapVector s.cfg x.2) →
      ∃ t, exec x.1 s = .next t ∧ HandlerEntered s t x.2 ∧ TrapFramePushed s t ((s.pc.toNat + 1) % 2 ^ 52) ∧
        TrapFrameRecorded s t s.written

/-- `43_flow_control.md` R210, `60_exceptions.md` R320, `70_reset_and_hazards.md` R350, R351: RST as an
instruction pushes nothing, or what the others push if the configuration says so; the record of stored-to bytes
starts afresh, before the pushes, which is the model's reading of R70 (log entries 28 and 43). (Spec decisions:
D22, D23, D24, D35.) -/
def Obligations.RstRestartsAtItsVector : Prop :=
  ∀ s : State, WordAccessible s.cfg s.cfg.vecRst →
    (s.cfg.rstPushes = false →
      ∃ t, exec .rst s = .next t ∧ HandlerEntered s t .rst ∧ KeepsRegs s t [] ∧
        (∀ a, t.loadByte a = s.loadByte a) ∧ t.written = []) ∧
    (s.cfg.rstPushes = true → WordAccessible s.cfg (s.readReg regSp - 4#52) →
      WordAccessible s.cfg (s.readReg regSp - 8#52) →
      ∃ t, exec .rst s = .next t ∧ HandlerEntered s t .rst ∧ TrapFramePushed s t ((s.pc.toNat + 1) % 2 ^ 52) ∧
        TrapFrameRecorded s t [])

/-- `60_exceptions.md` R320, R330, R331, `70_reset_and_hazards.md` R350, R351: an accepted nmi or irq input
enters its handler with the interrupted pc as return address, from a running or a waiting core, irq only if i is
0; an rst input enters the reset handler from every run state, pushing nothing or, if the configuration says so,
what the others push. That pushed bytes count as stored to and that a reset starts the record afresh, before its
pushes, is the model's reading of R70 (log entries 28 and 43). (Spec decisions: D21, D22, D23, D24, D25, D26,
D35, D40.) -/
def Obligations.RequestsEnterTheirHandler : Prop :=
  ∀ s : State,
    (∀ kind : TrapKind, s.run ≠ .stopped → s.requests.rst = false →
      (kind = .nmi ∧ s.requests.nmi = true ∨
        kind = .irq ∧ s.requests.nmi = false ∧ s.requests.irq = true ∧ s.sr.i = false) →
      WordAccessible s.cfg (s.readReg regSp - 4#52) → WordAccessible s.cfg (s.readReg regSp - 8#52) →
      WordAccessible s.cfg (trapVector s.cfg kind) →
      ∃ t, step s = .next t ∧ HandlerEntered s.takeRequests t kind ∧ TrapFramePushed s t s.pc.toNat ∧
        TrapFrameRecorded s t s.written) ∧
    (s.requests.rst = true → WordAccessible s.cfg s.cfg.vecRst →
      (s.cfg.rstPushes = false →
        ∃ t, step s = .next t ∧ HandlerEntered s.takeRequests t .rst ∧ KeepsRegs s t [] ∧
          (∀ a, t.loadByte a = s.loadByte a) ∧ t.written = []) ∧
      (s.cfg.rstPushes = true → WordAccessible s.cfg (s.readReg regSp - 4#52) →
        WordAccessible s.cfg (s.readReg regSp - 8#52) →
        ∃ t, step s = .next t ∧ HandlerEntered s.takeRequests t .rst ∧ TrapFramePushed s t s.pc.toNat ∧
          TrapFrameRecorded s t []))

/-- `60_exceptions.md` R324: RTI is the inverse of a trap entry that pushes: with sp and the two stack words as
the entry left them, it brings back pc, sp and all eight flags. The flags of the SR image have places of their
own (`10_state.md` R34). (Spec decisions: D19, D20, D21, D22.) -/
def Obligations.RtiUndoesTrapEntry : Prop :=
  ∀ (kind : TrapKind) (ret : Word) (s t u : State), s.cfg.srPos.Injective → trapPushes s.cfg kind = true →
    takeTrap kind ret s = .next t → u.cfg = t.cfg → u.readReg regSp = t.readReg regSp →
    (∀ k < 8, u.loadByte (t.readReg regSp + BitVec.ofNat 52 k) = t.loadByte (t.readReg regSp + BitVec.ofNat 52 k)) →
    ∃ w, exec .rti u = .next w ∧ w.pc = ret ∧ w.readReg regSp = s.readReg regSp ∧ w.sr = s.sr

/-! ## The stack and the status register -/

/-- `44_stack.md` R231, R232, `20_memory.md` R60: PHP pushes the SR image, PSH a register, which is read after sp
has fallen. (Spec decisions: D19, D21, D31.) -/
def Obligations.PushesStoreBelowSp : Prop :=
  ∀ (s : State) (ra : RegNo), WordAccessible s.cfg (s.readReg regSp - 4#52) →
    (∃ t w, exec .php s = .next t ∧ IsSRImage s.cfg.srPos s.sr w ∧ PushDone s t w ∧ PcAdvanced s t 1) ∧
    (∃ t, exec (.psh ra) s = .next t ∧
      PushDone s t (if ra = regSp then difference (s.readReg regSp).toNat 4 else (s.readReg ra).toNat) ∧
      PcAdvanced s t 1)

/-- `44_stack.md` R233, R234, `10_state.md` R35: PLP sets every flag from its bit of the popped word; POP writes
its target last, so POP sp leaves sp at the popped word. (Spec decisions: D8, D19, D21, D31.) -/
def Obligations.PopsRaiseSp : Prop :=
  ∀ (s : State) (rt : RegNo), WordAccessible s.cfg (s.readReg regSp) →
    (∃ t, exec .plp s = .next t ∧ FlagsFromImage s.cfg.srPos t.sr (memWord s (s.readReg regSp)) ∧ SpRaised s t 4 ∧
      PcAdvanced s t 1 ∧ Frame s t [regSp] [.c, .z, .i, .d, .u, .v, .n, .b]) ∧
    (∃ t, exec (.pop rt) s = .next t ∧ RegHolds t rt (memWord s (s.readReg regSp)) ∧ (rt ≠ regSp → SpRaised s t 4) ∧
      FlagsNZOf t.sr (memWord s (s.readReg regSp)) ∧ PcAdvanced s t 1 ∧ Frame s t [regSp, rt] [.n, .z])

/-- `44_stack.md` R233: PHP followed by PLP leaves SR and sp as they were, whatever the layout of the image.
(Spec decisions: D19, D21.) -/
def Obligations.PhpThenPlpRestoresSr : Prop :=
  ∀ s t : State, s.cfg.srPos.Injective → exec .php s = .next t →
    ∃ u, exec .plp t = .next u ∧ u.sr = s.sr ∧ KeepsRegs s u [] ∧ PcAdvanced s u 2

/-- `45_status.md` R250 to R252: REP clears and SEP sets those of c v n z i u whose image bit the mask has; d and
b never change. The mapping is the default of `cfg.masksel`. (Spec decision: D21.) -/
def Obligations.RepAndSepWriteTheMaskedFlags : Prop :=
  ∀ (s : State) (mask : BitVec 7), s.cfg.maskSel = .bySrPos →
    (∃ t, exec (.rep mask) s = .next t ∧ PcAdvanced s t 1 ∧ Frame s t [] [.c, .v, .n, .z, .i, .u] ∧
      ∀ f, f ≠ .d → f ≠ .b →
        (t.sr.get f = true ↔ s.sr.get f = true ∧ ¬ mask.toNat.testBit (s.cfg.srPos.of f).val = true)) ∧
    (∃ t, exec (.sep mask) s = .next t ∧ PcAdvanced s t 1 ∧ Frame s t [] [.c, .v, .n, .z, .i, .u] ∧
      ∀ f, f ≠ .d → f ≠ .b →
        (t.sr.get f = true ↔ s.sr.get f = true ∨ mask.toNat.testBit (s.cfg.srPos.of f).val = true))

/-! ## String instructions -/

/-- `46_string.md` R261, R263 to R265, R269 to R271: one element of MVN, MVP, MVNB and MVPB. (Spec decisions: D2,
D4, D30.) -/
def Obligations.MovesOneElement : Prop :=
  ∀ s : State,
    (WordAccessible s.cfg (s.readReg regX) → WordAccessible s.cfg (s.readReg regY) →
      (∃ t, exec .mvn s = .next t ∧ MoveDone s t 4 4) ∧ ∃ t, exec .mvp s = .next t ∧ MoveDone s t 4 (2 ^ 52 - 4)) ∧
    (ByteAccessible s.cfg (s.readReg regX) → ByteAccessible s.cfg (s.readReg regY) →
      (∃ t, exec .mvnb s = .next t ∧ MoveDone s t 1 1) ∧ ∃ t, exec .mvpb s = .next t ∧ MoveDone s t 1 (2 ^ 52 - 1))

/-- `46_string.md` R263, R266, R272: one element of STS and STSB. (Spec decisions: D2, D4, D30.) -/
def Obligations.FillsOneElement : Prop :=
  ∀ s : State,
    (WordAccessible s.cfg (s.readReg regY) →
      ∃ t, exec .sts s = .next t ∧ HoldsWord t (s.readReg regY) (s.readReg regX).toNat ∧ FillDone s t 4) ∧
    (ByteAccessible s.cfg (s.readReg regY) →
      ∃ t, exec .stsb s = .next t ∧ (t.loadByte (s.readReg regY)).toNat = (s.readReg regX).toNat % 2 ^ 13 ∧
        FillDone s t 1)

/-- `46_string.md` R263, R267, R268, R273: one element of CMPS and CMPSB. Under `cfg.string_flags_from_count` the
count's flags come first and the compare keeps their v, which is the model's choice (log entry 36). (Spec
decisions: D8, D9, D10, D30.) -/
def Obligations.ComparesOneElement : Prop :=
  ∀ s : State,
    (WordAccessible s.cfg (s.readReg regX) → WordAccessible s.cfg (s.readReg regY) →
      ∃ t, exec .cmps s = .next t ∧
        CompareDone s t 4 (memWord s (s.readReg regX)) (memWord s (s.readReg regY))) ∧
    (ByteAccessible s.cfg (s.readReg regX) → ByteAccessible s.cfg (s.readReg regY) →
      ∃ t, exec .cmpsb s = .next t ∧
        CompareDone s t 1 (extendedValue s.cfg.ldbExt (s.loadByte (s.readReg regX)))
          (extendedValue s.cfg.ldbExt (s.loadByte (s.readReg regY))))

/-- `46_string.md` R261, R263, R266: STS, executed as often as it repeats, fills as many words as the count says
and touches no other byte; the count ends at 0, y behind the last word, pc at the next instruction. (Spec
decisions: D1, D2, D4, D30.) -/
def Obligations.StsFillsTheBlock : Prop :=
  ∀ (s : State) (n : Nat), 0 < n → 4 * n ≤ 2 ^ 52 → (s.readReg regAcc).toNat = n →
    (∀ k < n, WordAccessible s.cfg (s.readReg regY + BitVec.ofNat 52 (4 * k))) →
    ∃ t, execTimes .sts n s = .next t ∧
      (∀ k < n, memWord t (s.readReg regY + BitVec.ofNat 52 (4 * k)) = (s.readReg regX).toNat) ∧
      (∀ a : Word, 4 * n ≤ (a - s.readReg regY).toNat → t.loadByte a = s.loadByte a) ∧
      t.readReg regAcc = 0#52 ∧ t.readReg regY = s.readReg regY + BitVec.ofNat 52 (4 * n) ∧
      KeepsRegs s t [regAcc, regY] ∧ PcAdvanced s t 1

/-- `46_string.md` R261, R263, R264: MVN, executed as often as it repeats, copies the block word by word, also
where the destination lies below an overlapping source. (Spec decisions: D1, D2, D4, D30.) -/
def Obligations.MvnCopiesTheBlock : Prop :=
  ∀ (s : State) (n : Nat), 0 < n → (s.readReg regX - s.readReg regY).toNat + 4 * n ≤ 2 ^ 52 →
    (s.readReg regAcc).toNat = n →
    (∀ k < n, WordAccessible s.cfg (s.readReg regX + BitVec.ofNat 52 (4 * k)) ∧
      WordAccessible s.cfg (s.readReg regY + BitVec.ofNat 52 (4 * k))) →
    ∃ t, execTimes .mvn n s = .next t ∧
      (∀ k < n, memWord t (s.readReg regY + BitVec.ofNat 52 (4 * k)) =
        memWord s (s.readReg regX + BitVec.ofNat 52 (4 * k))) ∧
      (∀ a : Word, 4 * n ≤ (a - s.readReg regY).toNat → t.loadByte a = s.loadByte a) ∧
      t.readReg regAcc = 0#52 ∧ t.readReg regX = s.readReg regX + BitVec.ofNat 52 (4 * n) ∧
      t.readReg regY = s.readReg regY + BitVec.ofNat 52 (4 * n) ∧ KeepsRegs s t [regAcc, regX, regY] ∧
      PcAdvanced s t 1

/-- `46_string.md` R268: with a count of n + 1 and n equal elements CMPS runs out of count with z set and the
last element not compared. (Spec decisions: D4, D8, D9, D30.) -/
def Obligations.CmpsOfEqualStrings : Prop :=
  ∀ (s : State) (n : Nat), 0 < n → (s.readReg regAcc).toNat = n + 1 →
    s.cfg.stringFlagsFromCount = false →
    (∀ k ≤ n, WordAccessible s.cfg (s.readReg regX + BitVec.ofNat 52 (4 * k)) ∧
      WordAccessible s.cfg (s.readReg regY + BitVec.ofNat 52 (4 * k))) →
    (∀ k < n, memWord s (s.readReg regX + BitVec.ofNat 52 (4 * k)) =
      memWord s (s.readReg regY + BitVec.ofNat 52 (4 * k))) →
    ∃ t, execTimes .cmps (n + 1) s = .next t ∧ t.readReg regAcc = 0#52 ∧ t.sr.z = true ∧ t.sr.n = false ∧
      t.sr.c = s.cfg.subCarryIsNotBorrow ∧ t.sr.v = s.sr.v ∧
      t.readReg regX = s.readReg regX + BitVec.ofNat 52 (4 * (n + 1)) ∧
      t.readReg regY = s.readReg regY + BitVec.ofNat 52 (4 * (n + 1)) ∧ PcAdvanced s t 1 ∧
      ∀ a, t.loadByte a = s.loadByte a

/-! ## The micro-op lists -/

/-- `46_string.md` R260, `49_microops.md` R290, R292, R298, `10_state.md` R40: the first nine bits of an
instruction word dispatch it to a printed list exactly if it is BRK or one of the four word string instructions,
and the list of a string instruction, run from any temporaries, does what the instruction does. The engine is the
model's (log entry 35), and so are its count flags under `cfg.string_flags_from_count` (log entry 36). (Spec
decision: D30.) -/
def Obligations.StringListsAreTheInstructions : Prop :=
  (∀ (swap : Bool) (ins : Word) (i : Instr), decodeWord swap ins = .ok i →
    ((microDispatch ins).isSome ↔ i ∈ [.mvn, .mvp, .sts, .cmps] ∨ ∃ const, i = .brk const)) ∧
  ∀ (swap : Bool) (ins tmp1 tmp2 : Word) (i : Instr) (s : State), decodeWord swap ins = .ok i →
    i ∈ [.mvn, .mvp, .sts, .cmps] → runMicro ins tmp1 tmp2 s = some (exec i s)

/-- `43_flow_control.md` R213, `49_microops.md` R297: the BRK list, from a running core whose BRK vector is the
list's literal, does what BRK does but for b, which no line of the list writes. The engine is the model's (log
entry 35). (Spec decisions: D22, D23, D37.) -/
def Obligations.BrkListIsBrkButForB : Prop :=
  ∀ (swap : Bool) (ins tmp1 tmp2 : Word) (const : BitVec 4) (s : State), decodeWord swap ins = .ok (.brk const) →
    s.cfg.vecBrk = 0xFFFFFFFFFFFC#52 → s.run = .running →
    runMicro ins tmp1 tmp2 s =
      some (match exec (.brk const) s with
        | .next t => .next { t with sr := { t.sr with b := s.sr.b } }
        | .fault f => .fault f
        | .refused r => .refused r)

/-! ## The whole machine -/

/-- Every step keeps the invariant: memories and record in canonical form, the slot of R0 zero (`10_state.md`
R21), the image layout injective (R34). The canonical forms and the slot are the model's representation (log
entries 1, 28, 34). -/
def Obligations.StepKeepsInvariant : Prop :=
  ∀ s t : State, s.Inv → step s = .next t → t.Inv

/-- The state after reset meets the invariant. What memory and registers hold at reset is the model's choice (log
entries 4 and 5). (Spec decisions: D21, D35.) -/
def Obligations.ResetMeetsInvariant : Prop :=
  State.reset.Inv

/-- `10_state.md` R43, `70_reset_and_hazards.md` R350, R351: whatever a power-on finds, i is 1, b is 0, the core
runs, R0 is zero and pc is the word at the reset vector. (Spec decision: D35.) -/
def Obligations.PowerOnState : Prop :=
  ∀ (cfg : Config) (init : PowerOn) (inputs : List Requests),
    (State.powerOn cfg init inputs).sr.i = true ∧ (State.powerOn cfg init inputs).sr.b = false ∧
      (State.powerOn cfg init inputs).run = .running ∧ (State.powerOn cfg init inputs).readReg 0#5 = 0#52 ∧
      (State.powerOn cfg init inputs).pc.toNat = memWord (State.powerOn cfg init inputs) cfg.vecRst

/-- `00_scope.md` R8, `20_memory.md` R51, `60_exceptions.md` R330: no step changes the configuration or a code
space of its own, and each step uses up the requests of exactly one boundary. That configuration and requests
stand in the state is the model's choice (log entries 2 and 7). (Spec decisions: D5, D25.) -/
def Obligations.StepKeepsConfigurationAndCode : Prop :=
  ∀ s t : State, step s = .next t → t.cfg = s.cfg ∧ t.code = s.code ∧ t.inputs = s.inputs.tail

/-- `10_state.md` R23, R28: no instruction writes a flag outside its row of the flag table, nor a register other
than its target and those it uses implicitly. -/
def Obligations.OnlyTheListedFlagsAndRegistersChange : Prop :=
  ∀ (i : Instr) (s t : State), exec i s = .next t →
    KeepsFlags s t (flagsWritten s.cfg i) ∧ KeepsRegs s t (regsWritten s.cfg i)

/-- `20_memory.md` R54, R58: no instruction changes a byte outside the span it stores to. (Spec decisions: D3,
D4.) -/
def Obligations.OnlyTheStoredBytesChange : Prop :=
  ∀ (i : Instr) (s t : State), exec i s = .next t → ∀ x : Word,
    (∀ a n, storeSpan s i = some (a, n) → n ≤ (x - a).toNat) → t.loadByte x = s.loadByte x

/-- `10_state.md` R25: every instruction that does not transfer control moves pc to the next instruction. (Spec
decision: D4.) -/
def Obligations.OtherInstructionsAdvancePc : Prop :=
  ∀ (i : Instr) (s t : State), transfersControl i = false → exec i s = .next t → PcAdvanced s t i.length

/-- `10_state.md` R38, `60_exceptions.md` R333: a running core leaves that state by WAI or STP only, and a
stopped core starts again by a reset request only. (Spec decisions: D25, D26.) -/
def Obligations.RunStateChanges : Prop :=
  (∀ (i : Instr) (s t : State), exec i s = .next t → s.run = .running → t.run ≠ .running → i = .wai ∨ i = .stp) ∧
  ∀ s t : State, step s = .next t → s.run = .stopped → t.run ≠ .stopped → s.requests.rst = true

/-- `20_memory.md` R70: every byte a step changes counts as stored to, and a byte stops counting only where the
step is a reset, by the input or by the instruction RST, so that a later fetch of it is noticed. The record and
its emptying are the model's reading of the rule (log entries 28 and 43). (Spec decision: D34.) -/
def Obligations.ChangedBytesAreRecorded : Prop :=
  ∀ s t : State, step s = .next t →
    (∀ a, byteAt t.mem a ≠ byteAt s.mem a → a ∈ t.written) ∧
      ((∀ a ∈ s.written, a ∈ t.written) ∨ s.boundary = .trap .rst ∨
        s.boundary = .execute ∧ s.takeRequests.fetch = .instruction .rst)
end

