-- ==== Sys2Proof/Laws/Decode.lean ====
section
/-! SUPPORT. Fields, and the passage from words to bytes and back, bit by bit. -/

namespace Sys2Proof

theorem getLsbD_field (w : Word) (lo len k : Nat) :
    (field w lo len).getLsbD k = (decide (k < len) && w.getLsbD (lo + k)) := by
  simp [field]

/-- Bit `k` of joined bytes is bit `k % 13` of byte `k / 13` (`20_memory.md` R56). -/
theorem getLsbD_joinBytes (bs : List Byte) {k : Nat} (hk : k < 52) :
    (joinBytes bs).getLsbD k = (bs.getD (k / 13) 0#13).getLsbD (k % 13) := by
  induction bs generalizing k with
  | nil => simp [joinBytes]
  | cons b bs ih =>
    simp only [joinBytes, BitVec.getLsbD_or, BitVec.truncate_eq_setWidth, BitVec.getLsbD_setWidth,
      BitVec.getLsbD_shiftLeft, hk, decide_true, Bool.true_and]
    by_cases h : k < 13
    · simp [h, Nat.div_eq_of_lt h, Nat.mod_eq_of_lt h]
    · have h1 : k / 13 = (k - 13) / 13 + 1 := by omega
      have h2 : k % 13 = (k - 13) % 13 := by omega
      rw [h1, h2, ih (by omega)]
      simp [h, BitVec.getLsbD_of_ge _ _ (show 13 ≤ k by omega)]

theorem length_splitBytes (n : Nat) (w : Word) : (splitBytes n w).length = n := by
  induction n generalizing w with
  | zero => rfl
  | succ n ih => simp [splitBytes, ih]

/-- Joining the first `n` bytes of a word gives back its low `13 * n` bits. -/
theorem getLsbD_joinBytes_splitBytes (n : Nat) (w : Word) {k : Nat} (hk : k < 52) :
    (joinBytes (splitBytes n w)).getLsbD k = (decide (k < 13 * n) && w.getLsbD k) := by
  induction n generalizing w k with
  | zero => simp [splitBytes, joinBytes]
  | succ n ih =>
    simp only [splitBytes, joinBytes, BitVec.getLsbD_or, BitVec.truncate_eq_setWidth, BitVec.getLsbD_setWidth,
      BitVec.getLsbD_shiftLeft, hk, decide_true, Bool.true_and]
    by_cases h : k < 13
    · simp [h, show k < 13 * (n + 1) by omega]
    · rw [ih _ (by omega)]
      simp only [h, decide_false, Bool.false_and, Bool.false_or, Bool.not_false,
        BitVec.getLsbD_extractLsb', Bool.true_and, BitVec.getLsbD_ushiftRight]
      rw [show 13 + (k - 13) = k by omega]
      congr 1
      exact decide_eq_decide.mpr (by omega)

end Sys2Proof
end

