-- ==== Sys2Proof/Laws/Flags.lean ====
section
/-! SUPPORT. The flag computations: what each keeps, what each computes on numbers, and the image of the status
register bit by bit. -/

namespace Sys2Proof.Machine

/-! ## What a flag computation keeps -/

@[simp] theorem StatusRegister.get_ofFlags (value : Flag → Bool) (f : Flag) :
    (StatusRegister.ofFlags value).get f = value f := by
  cases f <;> rfl

theorem StatusRegister.get_setNZ_other (sr : StatusRegister) (r : Word) {f : Flag} (hn : f ≠ .n) (hz : f ≠ .z) :
    (sr.setNZ r).get f = sr.get f := by
  cases f <;> simp_all [StatusRegister.setNZ, StatusRegister.get]

theorem StatusRegister.get_afterAdd_other (sr : StatusRegister) (a b : Word) {f : Flag} (hc : f ≠ .c) (hv : f ≠ .v)
    (hn : f ≠ .n) (hz : f ≠ .z) : (sr.afterAdd a b).get f = sr.get f := by
  cases f <;> simp_all [StatusRegister.afterAdd, StatusRegister.setNZ, StatusRegister.get]

theorem StatusRegister.get_afterCompare_other (sr : StatusRegister) (cfg : Config) (a b : Word) {f : Flag}
    (hc : f ≠ .c) (hn : f ≠ .n) (hz : f ≠ .z) : (sr.afterCompare cfg a b).get f = sr.get f := by
  cases f <;> simp_all [StatusRegister.afterCompare, StatusRegister.setNZ, StatusRegister.get]

theorem StatusRegister.get_afterSub_other (sr : StatusRegister) (cfg : Config) (a b : Word) {f : Flag} (hc : f ≠ .c)
    (hv : f ≠ .v) (hn : f ≠ .n) (hz : f ≠ .z) : (sr.afterSub cfg a b).get f = sr.get f := by
  cases f <;> simp_all [StatusRegister.afterSub, StatusRegister.afterCompare, StatusRegister.setNZ, StatusRegister.get]

theorem StatusRegister.get_afterBit_other (sr : StatusRegister) (r : Word) {f : Flag} (hv : f ≠ .v) (hn : f ≠ .n)
    (hz : f ≠ .z) : (sr.afterBit r).get f = sr.get f := by
  cases f <;> simp_all [StatusRegister.afterBit, StatusRegister.setNZ, StatusRegister.get]

theorem StatusRegister.get_afterShift_other (sr : StatusRegister) (r : Word) (carry : Bool) {f : Flag} (hc : f ≠ .c)
    (hn : f ≠ .n) (hz : f ≠ .z) : (sr.afterShift r carry).get f = sr.get f := by
  cases f <;> simp_all [StatusRegister.afterShift, StatusRegister.setNZ, StatusRegister.get]

/-! ## What it computes, on numbers -/

theorem difference_toNat (a b : Word) : (a - b).toNat = difference a.toNat b.toNat := by
  have := a.isLt
  have := b.isLt
  simp only [BitVec.toNat_sub, difference]
  omega

theorem flagsNZOf_setNZ (sr : StatusRegister) (r : Word) : FlagsNZOf (sr.setNZ r) r.toNat := by
  constructor
  · simp [StatusRegister.setNZ, BitVec.msb_eq_decide]
  · simp only [StatusRegister.setNZ, decide_eq_true_eq]
    exact ⟨fun h => by rw [h]; rfl, fun h => BitVec.eq_of_toNat_eq h⟩

/-- The overflow bit of an addition is the signed overflow (`40_arith_logic.md` R122). -/
theorem overflow_add (a b : Word) :
    ((a.msb == b.msb) && ((a + b).msb != a.msb)) = true ↔
      SignedOverflow (signedValue a.toNat + signedValue b.toNat) := by
  have := a.isLt
  have := b.isLt
  simp only [BitVec.msb_eq_decide, BitVec.toNat_add, Bool.and_eq_true, beq_iff_eq, bne_iff_ne, ne_eq, decide_eq_decide,
    SignedOverflow, signedValue]
  split <;> split <;> omega

/-- The overflow bit of a subtraction is the signed overflow (`40_arith_logic.md` R122). -/
theorem overflow_sub (a b : Word) :
    ((a.msb != b.msb) && ((a - b).msb != a.msb)) = true ↔
      SignedOverflow (signedValue a.toNat - signedValue b.toNat) := by
  have := a.isLt
  have := b.isLt
  simp only [BitVec.msb_eq_decide, BitVec.toNat_sub, Bool.and_eq_true, bne_iff_ne, ne_eq, decide_eq_decide,
    SignedOverflow, signedValue]
  split <;> split <;> omega

theorem subCarry_eq_true (cfg : Config) (a b : Word) :
    subCarry cfg a b = true ↔ if cfg.subCarryIsNotBorrow then b.toNat ≤ a.toNat else a.toNat < b.toNat := by
  unfold subCarry
  split <;> simp

/-! ## The image of the status register -/

theorem getLsbD_flagBit (value : Bool) (p : Fin 52) (k : Nat) :
    (flagBit value p).getLsbD k = (value && decide (p.val = k)) := by
  unfold flagBit
  cases value
  · simp
  · simp only [if_true, BitVec.getLsbD_shiftLeft, BitVec.getLsbD_one]
    have := p.isLt
    by_cases h : p.val = k
    · subst h; simp
    · simp [h]; omega

/-- A bit of the image is set exactly if a set flag stands there (`10_state.md` R34). -/
theorem getLsbD_packSR (p : FlagPositions) (sr : StatusRegister) (k : Nat) :
    (packSR p sr).getLsbD k = true ↔ ∃ f, (p.of f).val = k ∧ sr.get f = true := by
  simp only [packSR, BitVec.getLsbD_or, getLsbD_flagBit, Bool.or_eq_true, Bool.and_eq_true, decide_eq_true_eq]
  constructor
  · rintro (((((((⟨a, b⟩ | ⟨a, b⟩) | ⟨a, b⟩) | ⟨a, b⟩) | ⟨a, b⟩) | ⟨a, b⟩) | ⟨a, b⟩) | ⟨a, b⟩)
    exacts [⟨.c, b, a⟩, ⟨.z, b, a⟩, ⟨.i, b, a⟩, ⟨.d, b, a⟩, ⟨.u, b, a⟩, ⟨.v, b, a⟩, ⟨.n, b, a⟩, ⟨.b, b, a⟩]
  · rintro ⟨f, a, b⟩
    cases f <;> simp only [FlagPositions.of, StatusRegister.get] at a b <;> simp [a, b]

theorem FlagPositions.of_inj {p : FlagPositions} (h : p.Injective) {f g : Flag}
    (e : (p.of f).val = (p.of g).val) : f = g := by
  have e' : p.of f = p.of g := Fin.ext e
  simp only [FlagPositions.Injective, List.nodup_cons, List.mem_cons, List.not_mem_nil, or_false, not_or] at h
  cases f <;> cases g <;> simp_all [FlagPositions.of]

/-- Reading the image back gives the flags (`10_state.md` R34, R35). -/
theorem unpackSR_packSR {p : FlagPositions} (h : p.Injective) (sr : StatusRegister) :
    unpackSR p (packSR p sr) = sr := by
  have key : ∀ f, (packSR p sr).getLsbD (p.of f).val = sr.get f := by
    intro f
    rw [Bool.eq_iff_iff, getLsbD_packSR]
    constructor
    · rintro ⟨g, hg, hv⟩
      rwa [← FlagPositions.of_inj h hg]
    · intro hv
      exact ⟨f, rfl, hv⟩
  cases sr
  simp only [unpackSR, StatusRegister.ofFlags, key, StatusRegister.get]

end Sys2Proof.Machine
end

