-- ==== Sys2Proof/Laws/Memory.lean ====
section
/-! SUPPORT. Laws of memory: a write is read back, it leaves every other byte alone, and it keeps the
canonical form. -/

namespace Sys2Proof.Machine

/-! ## Reading after writing -/

@[simp] theorem byteAt_nil (a : Nat) : byteAt [] a = unlistedByte := rfl

theorem byteAt_cons (cell : Cell) (m : Memory) (a : Nat) :
    byteAt (cell :: m) a = if cell.1 = a then cell.2 else byteAt m a := rfl

theorem byteAt_dropAt_same (m : Memory) (a : Nat) : byteAt (dropAt m a) a = unlistedByte := by
  induction m with
  | nil => rfl
  | cons cell rest ih =>
    simp only [dropAt]
    split
    · exact ih
    · simp [byteAt, *]

theorem byteAt_dropAt_other (m : Memory) (a x : Nat) (h : x ≠ a) : byteAt (dropAt m a) x = byteAt m x := by
  induction m with
  | nil => rfl
  | cons cell rest ih =>
    simp only [dropAt]
    split
    · rw [ih, byteAt_cons, if_neg (by omega)]
    · simp [byteAt, ih]

theorem byteAt_insertAt_other (m : Memory) (a x : Nat) (v : Byte) (h : x ≠ a) :
    byteAt (insertAt m a v) x = byteAt m x := by
  have h' : a ≠ x := fun e => h e.symm
  induction m with
  | nil => simp [insertAt, byteAt, h']
  | cons cell rest ih =>
    simp only [insertAt]
    split
    · simp [byteAt, h']
    · simp [byteAt, ih]

theorem byteAt_insertAt_dropAt (m : Memory) (a : Nat) (v : Byte) : byteAt (insertAt (dropAt m a) a v) a = v := by
  induction m with
  | nil => simp [dropAt, insertAt, byteAt]
  | cons cell rest ih =>
    simp only [dropAt]
    split
    · exact ih
    · rename_i hne
      simp only [insertAt]
      split
      · simp [byteAt]
      · simp [byteAt, hne, ih]

/-- A byte written is read back. -/
theorem byteAt_setByteAt_same (m : Memory) (a : Nat) (v : Byte) : byteAt (setByteAt m a v) a = v := by
  unfold setByteAt
  split
  · rw [byteAt_dropAt_same, ‹v = unlistedByte›]
  · exact byteAt_insertAt_dropAt m a v

/-- A byte written leaves every other byte alone. -/
theorem byteAt_setByteAt_other (m : Memory) (a x : Nat) (v : Byte) (h : x ≠ a) :
    byteAt (setByteAt m a v) x = byteAt m x := by
  unfold setByteAt
  split
  · exact byteAt_dropAt_other m a x h
  · rw [byteAt_insertAt_other _ _ _ _ h, byteAt_dropAt_other _ _ _ h]

/-- What a written memory reads as, everywhere. -/
theorem byteAt_setByteAt (m : Memory) (a x : Nat) (v : Byte) :
    byteAt (setByteAt m a v) x = if x = a then v else byteAt m x := by
  split
  · subst x; exact byteAt_setByteAt_same m a v
  · exact byteAt_setByteAt_other m a x v ‹_›

/-! ## The canonical form -/

theorem wfFrom_weaken {low low' : Nat} (h : low' ≤ low) {m : Memory} (hm : Memory.wfFrom low m = true) :
    Memory.wfFrom low' m = true := by
  cases m with
  | nil => rfl
  | cons cell rest =>
    simp only [Memory.wfFrom, Bool.and_eq_true, decide_eq_true_eq] at hm ⊢
    exact ⟨⟨⟨by omega, hm.1.1.2⟩, hm.1.2⟩, hm.2⟩

theorem wfFrom_dropAt {low : Nat} {m : Memory} (hm : Memory.wfFrom low m = true) (a : Nat) :
    Memory.wfFrom low (dropAt m a) = true := by
  induction m generalizing low with
  | nil => rfl
  | cons cell rest ih =>
    simp only [Memory.wfFrom, Bool.and_eq_true, decide_eq_true_eq] at hm
    simp only [dropAt]
    split
    · exact wfFrom_weaken (by omega) (ih hm.2)
    · simp only [Memory.wfFrom, Bool.and_eq_true, decide_eq_true_eq]
      exact ⟨hm.1, ih hm.2⟩

theorem wfFrom_insertAt {low : Nat} {m : Memory} (hm : Memory.wfFrom low m = true) {a : Nat} {v : Byte}
    (hlow : low ≤ a) (ha : a < 2 ^ 52) (hv : v ≠ unlistedByte) (hfree : ∀ cell ∈ m, cell.1 ≠ a) :
    Memory.wfFrom low (insertAt m a v) = true := by
  induction m generalizing low with
  | nil => simpa [insertAt, Memory.wfFrom, hlow, hv] using ha
  | cons cell rest ih =>
    simp only [Memory.wfFrom, Bool.and_eq_true, decide_eq_true_eq] at hm
    have hne := hfree cell (by simp)
    simp only [insertAt]
    split
    · simp only [Memory.wfFrom, Bool.and_eq_true, decide_eq_true_eq, bne_iff_ne]
      exact ⟨⟨⟨hlow, ha⟩, hv⟩, ⟨⟨⟨by omega, hm.1.1.2⟩, by simpa using hm.1.2⟩, hm.2⟩⟩
    · simp only [Memory.wfFrom, Bool.and_eq_true, decide_eq_true_eq]
      exact ⟨hm.1, ih hm.2 (by omega) fun c hc => hfree c (by simp [hc])⟩

theorem mem_dropAt_ne (m : Memory) (a : Nat) : ∀ cell ∈ dropAt m a, cell.1 ≠ a := by
  induction m with
  | nil => simp [dropAt]
  | cons cell rest ih =>
    simp only [dropAt]
    split
    · exact ih
    · intro c hc
      rcases List.mem_cons.1 hc with rfl | hc
      · assumption
      · exact ih c hc

/-- A write inside the address space keeps the canonical form. -/
theorem wf_setByteAt {m : Memory} (hm : m.wf = true) {a : Nat} (ha : a < 2 ^ 52) (v : Byte) :
    Memory.wf (setByteAt m a v) = true := by
  unfold setByteAt
  split
  · exact wfFrom_dropAt hm a
  · exact wfFrom_insertAt (wfFrom_dropAt hm a) (Nat.zero_le a) ha ‹_› (mem_dropAt_ne m a)

/-! ## Sets of addresses -/

theorem mem_addAddress (w : AddressSet) (a x : Nat) : x ∈ addAddress w a ↔ x = a ∨ x ∈ w := by
  induction w with
  | nil => simp [addAddress]
  | cons y rest ih =>
    simp only [addAddress]
    split
    · simp
    · split
      · simp_all
      · simp only [List.mem_cons, ih]; tauto

theorem addressSet_wfFrom_addAddress {low : Nat} {w : AddressSet} (hw : AddressSet.wfFrom low w = true) {a : Nat}
    (hlow : low ≤ a) (ha : a < 2 ^ 52) : AddressSet.wfFrom low (addAddress w a) = true := by
  induction w generalizing low with
  | nil => simpa [addAddress, AddressSet.wfFrom, hlow] using ha
  | cons y rest ih =>
    simp only [AddressSet.wfFrom, Bool.and_eq_true, decide_eq_true_eq] at hw
    simp only [addAddress]
    split
    · simp only [AddressSet.wfFrom, Bool.and_eq_true, decide_eq_true_eq]
      exact ⟨⟨hlow, ha⟩, ⟨by omega, hw.1.2⟩, hw.2⟩
    · split
      · simp only [AddressSet.wfFrom, Bool.and_eq_true, decide_eq_true_eq]
        exact hw
      · simp only [AddressSet.wfFrom, Bool.and_eq_true, decide_eq_true_eq]
        exact ⟨hw.1, ih hw.2 (by omega)⟩

/-- Adding an address keeps the canonical form of a set of addresses. -/
theorem wf_addAddress {w : AddressSet} (hw : w.wf = true) {a : Nat} (ha : a < 2 ^ 52) :
    AddressSet.wf (addAddress w a) = true :=
  addressSet_wfFrom_addAddress hw (Nat.zero_le a) ha

/-! ## Words and their bytes -/

theorem wordByte_little (v : Word) (k : Nat) : wordByte true v k = v.extractLsb' (13 * k) 13 := rfl

theorem wordByte_big (v : Word) (k : Nat) : wordByte false v k = v.extractLsb' (39 - 13 * k) 13 := rfl

theorem getLsbD_inside {w i d : Nat} (v : BitVec w) (o : Nat) (h : d < 13) (e : o + d = i) :
    (decide (d < 13) && v.getLsbD (o + d)) = v.getLsbD i := by
  simp [h, e]

/-- The four bytes of a word make the word again. -/
theorem joinWord_wordByte (little : Bool) (v : Word) :
    joinWord little (wordByte little v 0) (wordByte little v 1) (wordByte little v 2) (wordByte little v 3) = v := by
  apply BitVec.eq_of_getLsbD_eq
  intro i hi
  cases little <;>
    simp only [joinWord, wordByte, BitVec.getLsbD_append, BitVec.getLsbD_extractLsb', if_true, Bool.false_eq_true,
      if_false] <;>
    split_ifs <;> exact getLsbD_inside v _ (by omega) (by omega)

/-- The bytes of the word that four bytes make are those bytes. -/
theorem wordByte_joinWord (little : Bool) (b0 b1 b2 b3 : Byte) :
    wordByte little (joinWord little b0 b1 b2 b3) 0 = b0 ∧ wordByte little (joinWord little b0 b1 b2 b3) 1 = b1 ∧
      wordByte little (joinWord little b0 b1 b2 b3) 2 = b2 ∧ wordByte little (joinWord little b0 b1 b2 b3) 3 = b3 := by
  refine ⟨?_, ?_, ?_, ?_⟩ <;> apply BitVec.eq_of_getLsbD_eq <;> intro i hi <;> cases little <;>
    simp only [joinWord, wordByte, BitVec.getLsbD_append, BitVec.getLsbD_extractLsb', if_true, Bool.false_eq_true,
      if_false] <;>
    split_ifs <;> first
      | omega
      | (simp only [hi, decide_true, Bool.true_and]; congr 1; omega)

end Sys2Proof.Machine
end

