-- ==== Sys2Proof/Laws/MicroOp.lean ====
section
/-! SUPPORT. The micro-op engine: a list and its FL bits, the dispatch, and what reading and writing an operand of
a printed list gives. -/

namespace Sys2Proof.Machine

/-! ## Lists and their FL bits -/

/-- The lines after the first, read up to the one marked last, are those that were marked. -/
theorem linesToLast_markRest (ops : List MicroOp) (after : List MicroLine) (h : ops ≠ []) :
    linesToLast (markRest ops ++ after) = some ops := by
  induction ops with
  | nil => exact absurd rfl h
  | cons op rest ih =>
    cases rest with
    | nil => simp [markRest, linesToLast, microFirstLast]
    | cons op' rest' =>
      have := ih (List.cons_ne_nil _ _)
      simp only [markRest, List.cons_append, linesToLast]
      simp [microFirstLast, this]

/-- A list is delimited by its own FL bits: whatever stands before and behind it, the list at its pointer is the one
that was marked (`49_microops.md` R292). -/
theorem microListAt_markList (before after : List MicroLine) (ops : List MicroOp) (h : ops ≠ []) :
    microListAt (before ++ (markList ops ++ after)) before.length = some ops := by
  unfold microListAt
  rw [List.drop_left]
  match ops with
  | [op] => simp [markList, microFirstLast]
  | op :: op' :: rest =>
    simp only [markList, List.cons_append]
    have := linesToLast_markRest (op' :: rest) after (List.cons_ne_nil _ _)
    simp [microFirstLast, this]

/-! ## Dispatch -/

/-- The index is the opcode below the function code (`49_microops.md` R290). -/
theorem microIndex_eq (ins : Word) : microIndex ins = field ins 6 3 ++ field ins 0 6 := by
  apply BitVec.eq_of_getLsbD_eq
  intro k hk
  simp only [microIndex, field, BitVec.getLsbD_extractLsb', BitVec.getLsbD_append]
  by_cases h : k < 6
  · simp [h, hk]
  · simp [h, show k - 6 < 3 by omega, hk, show 6 + (k - 6) = k by omega]

/-- Everything the dispatch can answer: the five lists, each at the one index of its instruction. -/
theorem microDispatch_eq_some {ins : Word} {ops : List MicroOp} :
    microDispatch ins = some ops ↔
      (microIndex ins = 0o334#9 ∧ brkList = ops) ∨ (microIndex ins = 0o445#9 ∧ mvnList = ops) ∨
        (microIndex ins = 0o545#9 ∧ mvpList = ops) ∨ (microIndex ins = 0o645#9 ∧ stsList = ops) ∨
          (microIndex ins = 0o745#9 ∧ cmpsList = ops) := by
  have brk : microListAt microLines 0 = some brkList := by decide
  have mvn : microListAt microLines 7 = some mvnList := by decide
  have mvp : microListAt microLines 13 = some mvpList := by decide
  have sts : microListAt microLines 19 = some stsList := by decide
  have cmps : microListAt microLines 23 = some cmpsList := by decide
  unfold microDispatch
  generalize microIndex ins = index
  by_cases h1 : index = 0o334#9
  · subst h1; simp [microPointer, brk]
  by_cases h2 : index = 0o445#9
  · subst h2; simp [microPointer, mvn]
  by_cases h3 : index = 0o545#9
  · subst h3; simp [microPointer, mvp]
  by_cases h4 : index = 0o645#9
  · subst h4; simp [microPointer, sts]
  by_cases h5 : index = 0o745#9
  · subst h5; simp [microPointer, cmps]
  have none_of : microPointer index = none := by
    unfold microPointer
    simp only [← BitVec.toNat_inj, BitVec.toNat_ofNat] at h1 h2 h3 h4 h5
    split <;> first | rfl | omega
  simp [none_of, h1, h2, h3, h4, h5]

/-- Entries that share an opcode whose format has no function code or condition code are the same: the source gives
none of them (`49_microops.md` R290). -/
theorem microPointer_of_no_function_code (index : BitVec 9)
    (h : index.toNat % 64 ∉ [0o24, 0o34, 0o45, 0o05, 0o15, 0o25, 0o35]) : microPointer index = none := by
  unfold microPointer
  split <;> first | rfl | (rename_i e; rw [e] at h; exact absurd (by decide) h)

/-! ## Operands -/

/-- A result written to a temporary is read back, and the machine is as it was. -/
theorem MicroState.write_tmp (m : MicroState) (v : Word) :
    (∃ m', m.write .tmp1 v = some m' ∧ m'.read .tmp1 = v ∧ m'.machine = m.machine) ∧
      ∃ m', m.write .tmp2 v = some m' ∧ m'.read .tmp2 = v ∧ m'.machine = m.machine :=
  ⟨⟨_, rfl, rfl, rfl⟩, _, rfl, rfl, rfl⟩

/-- A result for the value 0 is discarded (`49_microops.md` R293). -/
theorem MicroState.writeTarget_zero (m : MicroState) (v : Word) : m.writeTarget 0#4 v = some m := rfl

/-- The read-only operands of the target selector take no result (`49_microops.md` R293). -/
theorem MicroState.writeTarget_readOnly (m : MicroState) (v : Word) :
    m.writeTarget 9#4 v = none ∧ m.writeTarget 10#4 v = none ∧ m.writeTarget 11#4 v = none := ⟨rfl, rfl, rfl⟩

/-- Going on unless refused answers a result of the rest exactly where nothing is refused. -/
theorem unlessMicroRefused_some (refusal : Option Refusal) (rest : Result) :
    unlessMicroRefused refusal (some rest) = some (unlessRefused refusal rest) := by
  cases refusal <;> rfl

end Sys2Proof.Machine
end

