-- ==== Sys2Proof/Laws/State.lean ====
section
/-! SUPPORT. One lemma per field per update of the state, so that no later proof unfolds a record update. -/

namespace Sys2Proof.Machine

/-! ## `State.setPc` -/

@[simp] theorem State.setPc_cfg (s : State) (t : Word) : (s.setPc t).cfg = s.cfg := rfl

@[simp] theorem State.setPc_regs (s : State) (t : Word) : (s.setPc t).regs = s.regs := rfl

@[simp] theorem State.setPc_pc (s : State) (t : Word) : (s.setPc t).pc = t := rfl

@[simp] theorem State.setPc_sr (s : State) (t : Word) : (s.setPc t).sr = s.sr := rfl

@[simp] theorem State.setPc_run (s : State) (t : Word) : (s.setPc t).run = s.run := rfl

@[simp] theorem State.setPc_mem (s : State) (t : Word) : (s.setPc t).mem = s.mem := rfl

@[simp] theorem State.setPc_code (s : State) (t : Word) : (s.setPc t).code = s.code := rfl

@[simp] theorem State.setPc_written (s : State) (t : Word) : (s.setPc t).written = s.written := rfl

@[simp] theorem State.setPc_inputs (s : State) (t : Word) : (s.setPc t).inputs = s.inputs := rfl

/-! ## `State.advance` -/

@[simp] theorem State.advance_cfg (s : State) (len : Nat) : (s.advance len).cfg = s.cfg := rfl

@[simp] theorem State.advance_regs (s : State) (len : Nat) : (s.advance len).regs = s.regs := rfl

@[simp] theorem State.advance_pc (s : State) (len : Nat) : (s.advance len).pc = s.pc + BitVec.ofNat 52 len := rfl

@[simp] theorem State.advance_sr (s : State) (len : Nat) : (s.advance len).sr = s.sr := rfl

@[simp] theorem State.advance_run (s : State) (len : Nat) : (s.advance len).run = s.run := rfl

@[simp] theorem State.advance_mem (s : State) (len : Nat) : (s.advance len).mem = s.mem := rfl

@[simp] theorem State.advance_code (s : State) (len : Nat) : (s.advance len).code = s.code := rfl

@[simp] theorem State.advance_written (s : State) (len : Nat) : (s.advance len).written = s.written := rfl

@[simp] theorem State.advance_inputs (s : State) (len : Nat) : (s.advance len).inputs = s.inputs := rfl

/-! ## `State.setSR` -/

@[simp] theorem State.setSR_cfg (s : State) (sr : StatusRegister) : (s.setSR sr).cfg = s.cfg := rfl

@[simp] theorem State.setSR_regs (s : State) (sr : StatusRegister) : (s.setSR sr).regs = s.regs := rfl

@[simp] theorem State.setSR_pc (s : State) (sr : StatusRegister) : (s.setSR sr).pc = s.pc := rfl

@[simp] theorem State.setSR_sr (s : State) (sr : StatusRegister) : (s.setSR sr).sr = sr := rfl

@[simp] theorem State.setSR_run (s : State) (sr : StatusRegister) : (s.setSR sr).run = s.run := rfl

@[simp] theorem State.setSR_mem (s : State) (sr : StatusRegister) : (s.setSR sr).mem = s.mem := rfl

@[simp] theorem State.setSR_code (s : State) (sr : StatusRegister) : (s.setSR sr).code = s.code := rfl

@[simp] theorem State.setSR_written (s : State) (sr : StatusRegister) : (s.setSR sr).written = s.written := rfl

@[simp] theorem State.setSR_inputs (s : State) (sr : StatusRegister) : (s.setSR sr).inputs = s.inputs := rfl

/-! ## `State.writeReg` -/

@[simp] theorem State.writeReg_cfg (s : State) (r : RegNo) (v : Word) : (s.writeReg r v).cfg = s.cfg := by
  unfold State.writeReg; split <;> rfl

@[simp] theorem State.writeReg_pc (s : State) (r : RegNo) (v : Word) : (s.writeReg r v).pc = s.pc := by
  unfold State.writeReg; split <;> rfl

@[simp] theorem State.writeReg_sr (s : State) (r : RegNo) (v : Word) : (s.writeReg r v).sr = s.sr := by
  unfold State.writeReg; split <;> rfl

@[simp] theorem State.writeReg_run (s : State) (r : RegNo) (v : Word) : (s.writeReg r v).run = s.run := by
  unfold State.writeReg; split <;> rfl

@[simp] theorem State.writeReg_mem (s : State) (r : RegNo) (v : Word) : (s.writeReg r v).mem = s.mem := by
  unfold State.writeReg; split <;> rfl

@[simp] theorem State.writeReg_code (s : State) (r : RegNo) (v : Word) : (s.writeReg r v).code = s.code := by
  unfold State.writeReg; split <;> rfl

@[simp] theorem State.writeReg_written (s : State) (r : RegNo) (v : Word) : (s.writeReg r v).written = s.written := by
  unfold State.writeReg; split <;> rfl

@[simp] theorem State.writeReg_inputs (s : State) (r : RegNo) (v : Word) : (s.writeReg r v).inputs = s.inputs := by
  unfold State.writeReg; split <;> rfl

/-! ## `State.storeByte` -/

@[simp] theorem State.storeByte_cfg (s : State) (a : Word) (v : Byte) : (s.storeByte a v).cfg = s.cfg := rfl

@[simp] theorem State.storeByte_regs (s : State) (a : Word) (v : Byte) : (s.storeByte a v).regs = s.regs := rfl

@[simp] theorem State.storeByte_pc (s : State) (a : Word) (v : Byte) : (s.storeByte a v).pc = s.pc := rfl

@[simp] theorem State.storeByte_sr (s : State) (a : Word) (v : Byte) : (s.storeByte a v).sr = s.sr := rfl

@[simp] theorem State.storeByte_run (s : State) (a : Word) (v : Byte) : (s.storeByte a v).run = s.run := rfl

@[simp] theorem State.storeByte_mem (s : State) (a : Word) (v : Byte) : (s.storeByte a v).mem = setByteAt s.mem a.toNat v := rfl

@[simp] theorem State.storeByte_code (s : State) (a : Word) (v : Byte) : (s.storeByte a v).code = s.code := rfl

@[simp] theorem State.storeByte_written (s : State) (a : Word) (v : Byte) : (s.storeByte a v).written = addAddress s.written a.toNat := rfl

@[simp] theorem State.storeByte_inputs (s : State) (a : Word) (v : Byte) : (s.storeByte a v).inputs = s.inputs := rfl

/-! ## `State.storeWord` -/

@[simp] theorem State.storeWord_cfg (s : State) (a v : Word) : (s.storeWord a v).cfg = s.cfg := rfl

@[simp] theorem State.storeWord_regs (s : State) (a v : Word) : (s.storeWord a v).regs = s.regs := rfl

@[simp] theorem State.storeWord_pc (s : State) (a v : Word) : (s.storeWord a v).pc = s.pc := rfl

@[simp] theorem State.storeWord_sr (s : State) (a v : Word) : (s.storeWord a v).sr = s.sr := rfl

@[simp] theorem State.storeWord_run (s : State) (a v : Word) : (s.storeWord a v).run = s.run := rfl

@[simp] theorem State.storeWord_code (s : State) (a v : Word) : (s.storeWord a v).code = s.code := rfl

@[simp] theorem State.storeWord_inputs (s : State) (a v : Word) : (s.storeWord a v).inputs = s.inputs := rfl

/-! ## `State.push` -/

@[simp] theorem State.push_cfg (s : State) (v : Word) : (s.push v).cfg = s.cfg := by
  simp [State.push]

@[simp] theorem State.push_pc (s : State) (v : Word) : (s.push v).pc = s.pc := by
  simp [State.push]

@[simp] theorem State.push_sr (s : State) (v : Word) : (s.push v).sr = s.sr := by
  simp [State.push]

@[simp] theorem State.push_run (s : State) (v : Word) : (s.push v).run = s.run := by
  simp [State.push]

@[simp] theorem State.push_code (s : State) (v : Word) : (s.push v).code = s.code := by
  simp [State.push]

@[simp] theorem State.push_inputs (s : State) (v : Word) : (s.push v).inputs = s.inputs := by
  simp [State.push]

/-! ## `State.dropWord` -/

@[simp] theorem State.dropWord_cfg (s : State) : (s.dropWord).cfg = s.cfg := by
  simp [State.dropWord]

@[simp] theorem State.dropWord_pc (s : State) : (s.dropWord).pc = s.pc := by
  simp [State.dropWord]

@[simp] theorem State.dropWord_sr (s : State) : (s.dropWord).sr = s.sr := by
  simp [State.dropWord]

@[simp] theorem State.dropWord_run (s : State) : (s.dropWord).run = s.run := by
  simp [State.dropWord]

@[simp] theorem State.dropWord_mem (s : State) : (s.dropWord).mem = s.mem := by
  simp [State.dropWord]

@[simp] theorem State.dropWord_code (s : State) : (s.dropWord).code = s.code := by
  simp [State.dropWord]

@[simp] theorem State.dropWord_written (s : State) : (s.dropWord).written = s.written := by
  simp [State.dropWord]

@[simp] theorem State.dropWord_inputs (s : State) : (s.dropWord).inputs = s.inputs := by
  simp [State.dropWord]

/-! ## `State.takeRequests` -/

@[simp] theorem State.takeRequests_cfg (s : State) : (s.takeRequests).cfg = s.cfg := rfl

@[simp] theorem State.takeRequests_regs (s : State) : (s.takeRequests).regs = s.regs := rfl

@[simp] theorem State.takeRequests_pc (s : State) : (s.takeRequests).pc = s.pc := rfl

@[simp] theorem State.takeRequests_sr (s : State) : (s.takeRequests).sr = s.sr := rfl

@[simp] theorem State.takeRequests_run (s : State) : (s.takeRequests).run = s.run := rfl

@[simp] theorem State.takeRequests_mem (s : State) : (s.takeRequests).mem = s.mem := rfl

@[simp] theorem State.takeRequests_code (s : State) : (s.takeRequests).code = s.code := rfl

@[simp] theorem State.takeRequests_written (s : State) : (s.takeRequests).written = s.written := rfl

@[simp] theorem State.takeRequests_inputs (s : State) : (s.takeRequests).inputs = s.inputs.tail := rfl

/-! ## `State.wake` -/

@[simp] theorem State.wake_cfg (s : State) : (s.wake).cfg = s.cfg := rfl

@[simp] theorem State.wake_regs (s : State) : (s.wake).regs = s.regs := rfl

@[simp] theorem State.wake_pc (s : State) : (s.wake).pc = s.pc := rfl

@[simp] theorem State.wake_sr (s : State) : (s.wake).sr = s.sr := rfl

@[simp] theorem State.wake_run (s : State) : (s.wake).run = .running := rfl

@[simp] theorem State.wake_mem (s : State) : (s.wake).mem = s.mem := rfl

@[simp] theorem State.wake_code (s : State) : (s.wake).code = s.code := rfl

@[simp] theorem State.wake_written (s : State) : (s.wake).written = s.written := rfl

@[simp] theorem State.wake_inputs (s : State) : (s.wake).inputs = s.inputs := rfl

/-! ## Reading a register after an update -/

@[simp] theorem State.readReg_zero (s : State) : s.readReg 0#5 = 0#52 := rfl

@[simp] theorem State.writeReg_zero (s : State) (v : Word) : s.writeReg 0#5 v = s := rfl

/-- What a written register file reads as, everywhere (`10_state.md` R21). -/
theorem State.readReg_writeReg (s : State) (r x : RegNo) (v : Word) :
    (s.writeReg r v).readReg x = if x = 0#5 then 0#52 else if x = r then v else s.readReg x := by
  unfold State.readReg State.writeReg
  by_cases hx : x = 0#5
  · simp [hx]
  · by_cases hr : r = 0#5
    · subst hr; simp [hx]
    · by_cases hxr : x = r
      · subst hxr; simp [hx]
      · have hne : r.toNat ≠ x.toNat := fun h => hxr (BitVec.eq_of_toNat_eq h.symm)
        simp [hx, hr, hxr, Vector.getElem_set_ne _ _ hne]

theorem State.readReg_writeReg_same (s : State) (r : RegNo) (v : Word) (h : r ≠ 0#5) :
    (s.writeReg r v).readReg r = v := by
  simp [State.readReg_writeReg, h]

theorem State.readReg_writeReg_other (s : State) (r x : RegNo) (v : Word) (h : x ≠ r) :
    (s.writeReg r v).readReg x = s.readReg x := by
  rw [State.readReg_writeReg, if_neg h]
  split
  · subst x; rfl
  · rfl

@[simp] theorem State.readReg_setPc (s : State) (t : Word) (r : RegNo) : (s.setPc t).readReg r = s.readReg r := rfl

@[simp] theorem State.readReg_advance (s : State) (len : Nat) (r : RegNo) : (s.advance len).readReg r = s.readReg r := rfl

@[simp] theorem State.readReg_setSR (s : State) (sr : StatusRegister) (r : RegNo) : (s.setSR sr).readReg r = s.readReg r := rfl

@[simp] theorem State.readReg_storeByte (s : State) (a : Word) (v : Byte) (r : RegNo) : (s.storeByte a v).readReg r = s.readReg r := rfl

@[simp] theorem State.readReg_storeWord (s : State) (a v : Word) (r : RegNo) : (s.storeWord a v).readReg r = s.readReg r := rfl

@[simp] theorem State.readReg_takeRequests (s : State) (r : RegNo) : (s.takeRequests).readReg r = s.readReg r := rfl

@[simp] theorem State.readReg_wake (s : State) (r : RegNo) : (s.wake).readReg r = s.readReg r := rfl

theorem State.readReg_push (s : State) (v : Word) (x : RegNo) :
    (s.push v).readReg x = if x = regSp then s.sp - 4#52 else s.readReg x := by
  have h : (s.push v).readReg x = (s.writeReg regSp (s.sp - 4#52)).readReg x := rfl
  rw [h, State.readReg_writeReg]
  by_cases hx : x = 0#5
  · subst x; rfl
  · simp [hx]

theorem State.readReg_dropWord (s : State) (x : RegNo) :
    s.dropWord.readReg x = if x = regSp then s.sp + 4#52 else s.readReg x := by
  unfold State.dropWord
  rw [State.readReg_writeReg]
  by_cases hx : x = 0#5
  · subst x; rfl
  · simp [hx]

@[simp] theorem State.sp_push (s : State) (v : Word) : (s.push v).sp = s.sp - 4#52 := by
  simp [State.sp, State.readReg_push]

@[simp] theorem State.sp_dropWord (s : State) : s.dropWord.sp = s.sp + 4#52 := by
  simp [State.sp, State.readReg_dropWord]

/-! ## Reading memory after an update -/

@[simp] theorem State.loadByte_setPc (s : State) (t : Word) (a : Word) : (s.setPc t).loadByte a = s.loadByte a := by
  simp [State.loadByte]

@[simp] theorem State.loadWord_setPc (s : State) (t : Word) (a : Word) : (s.setPc t).loadWord a = s.loadWord a := by
  simp [State.loadWord]

@[simp] theorem State.loadByte_advance (s : State) (len : Nat) (a : Word) : (s.advance len).loadByte a = s.loadByte a := by
  simp [State.loadByte]

@[simp] theorem State.loadWord_advance (s : State) (len : Nat) (a : Word) : (s.advance len).loadWord a = s.loadWord a := by
  simp [State.loadWord]

@[simp] theorem State.loadByte_setSR (s : State) (sr : StatusRegister) (a : Word) : (s.setSR sr).loadByte a = s.loadByte a := by
  simp [State.loadByte]

@[simp] theorem State.loadWord_setSR (s : State) (sr : StatusRegister) (a : Word) : (s.setSR sr).loadWord a = s.loadWord a := by
  simp [State.loadWord]

@[simp] theorem State.loadByte_writeReg (s : State) (r : RegNo) (v : Word) (a : Word) : (s.writeReg r v).loadByte a = s.loadByte a := by
  simp [State.loadByte]

@[simp] theorem State.loadWord_writeReg (s : State) (r : RegNo) (v : Word) (a : Word) : (s.writeReg r v).loadWord a = s.loadWord a := by
  simp [State.loadWord]

@[simp] theorem State.loadByte_dropWord (s : State) (a : Word) : (s.dropWord).loadByte a = s.loadByte a := by
  simp [State.loadByte]

@[simp] theorem State.loadWord_dropWord (s : State) (a : Word) : (s.dropWord).loadWord a = s.loadWord a := by
  simp [State.loadWord]

@[simp] theorem State.loadByte_takeRequests (s : State) (a : Word) : (s.takeRequests).loadByte a = s.loadByte a := by
  simp [State.loadByte]

@[simp] theorem State.loadWord_takeRequests (s : State) (a : Word) : (s.takeRequests).loadWord a = s.loadWord a := by
  simp [State.loadWord]

@[simp] theorem State.loadByte_wake (s : State) (a : Word) : (s.wake).loadByte a = s.loadByte a := by
  simp [State.loadByte]

@[simp] theorem State.loadWord_wake (s : State) (a : Word) : (s.wake).loadWord a = s.loadWord a := by
  simp [State.loadWord]

/-! ## Starting the record of stored-to bytes, and entering a handler -/

@[simp] theorem State.startRecord_cfg (s : State) (k : TrapKind) : (s.startRecord k).cfg = s.cfg := rfl

@[simp] theorem State.startRecord_regs (s : State) (k : TrapKind) : (s.startRecord k).regs = s.regs := rfl

@[simp] theorem State.startRecord_pc (s : State) (k : TrapKind) : (s.startRecord k).pc = s.pc := rfl

@[simp] theorem State.startRecord_sr (s : State) (k : TrapKind) : (s.startRecord k).sr = s.sr := rfl

@[simp] theorem State.startRecord_run (s : State) (k : TrapKind) : (s.startRecord k).run = s.run := rfl

@[simp] theorem State.startRecord_mem (s : State) (k : TrapKind) : (s.startRecord k).mem = s.mem := rfl

@[simp] theorem State.startRecord_code (s : State) (k : TrapKind) : (s.startRecord k).code = s.code := rfl

@[simp] theorem State.startRecord_inputs (s : State) (k : TrapKind) : (s.startRecord k).inputs = s.inputs := rfl

theorem State.startRecord_written (s : State) (k : TrapKind) :
    (s.startRecord k).written = if k = .rst then [] else s.written := rfl

@[simp] theorem State.startRecord_of_ne (s : State) {k : TrapKind} (h : k ≠ .rst) : s.startRecord k = s := by
  simp [State.startRecord, h]

@[simp] theorem State.readReg_startRecord (s : State) (k : TrapKind) (r : RegNo) :
    (s.startRecord k).readReg r = s.readReg r := rfl

@[simp] theorem State.sp_startRecord (s : State) (k : TrapKind) : (s.startRecord k).sp = s.sp := rfl

@[simp] theorem State.loadByte_startRecord (s : State) (k : TrapKind) (a : Word) :
    (s.startRecord k).loadByte a = s.loadByte a := rfl

@[simp] theorem State.loadWord_startRecord (s : State) (k : TrapKind) (a : Word) :
    (s.startRecord k).loadWord a = s.loadWord a := rfl

@[simp] theorem State.enterHandler_cfg (s : State) (k : TrapKind) : (s.enterHandler k).cfg = s.cfg := rfl

@[simp] theorem State.enterHandler_regs (s : State) (k : TrapKind) : (s.enterHandler k).regs = s.regs := rfl

@[simp] theorem State.enterHandler_mem (s : State) (k : TrapKind) : (s.enterHandler k).mem = s.mem := rfl

@[simp] theorem State.enterHandler_code (s : State) (k : TrapKind) : (s.enterHandler k).code = s.code := rfl

@[simp] theorem State.enterHandler_written (s : State) (k : TrapKind) : (s.enterHandler k).written = s.written := rfl

@[simp] theorem State.enterHandler_inputs (s : State) (k : TrapKind) : (s.enterHandler k).inputs = s.inputs := rfl

@[simp] theorem State.enterHandler_pc (s : State) (k : TrapKind) :
    (s.enterHandler k).pc = s.loadWord (trapVector s.cfg k) := rfl

@[simp] theorem State.enterHandler_sr (s : State) (k : TrapKind) :
    (s.enterHandler k).sr = { s.sr with i := true, b := decide (k = .brk) } := rfl

@[simp] theorem State.enterHandler_run (s : State) (k : TrapKind) : (s.enterHandler k).run = .running := rfl

@[simp] theorem State.readReg_enterHandler (s : State) (k : TrapKind) (r : RegNo) :
    (s.enterHandler k).readReg r = s.readReg r := rfl

@[simp] theorem State.loadByte_enterHandler (s : State) (k : TrapKind) (a : Word) :
    (s.enterHandler k).loadByte a = s.loadByte a := rfl

@[simp] theorem State.loadWord_enterHandler (s : State) (k : TrapKind) (a : Word) :
    (s.enterHandler k).loadWord a = s.loadWord a := rfl

end Sys2Proof.Machine
end

