-- ==== Sys2Proof/Laws/Ops.lean ====
section
/-! SUPPORT. For each shared operation, once, everything it can do. -/

namespace Sys2Proof.Machine

/-! ## Loads and stores -/

theorem toNat_ne_of_ne {a b : Word} (h : a ≠ b) : a.toNat ≠ b.toNat :=
  fun e => h (BitVec.eq_of_toNat_eq e)

/-- A byte store, read anywhere. -/
theorem State.loadByte_storeByte (s : State) (a x : Word) (v : Byte) :
    (s.storeByte a v).loadByte x = if x = a then v else s.loadByte x := by
  show byteAt (setByteAt s.mem a.toNat v) x.toNat = _
  by_cases h : x = a
  · subst h; simp [byteAt_setByteAt_same]
  · rw [byteAt_setByteAt_other _ _ _ _ (toNat_ne_of_ne h), if_neg h]; rfl

/-- A word is read byte by byte (`20_memory.md` R53). -/
theorem State.loadWord_eq (s : State) (a : Word) :
    s.loadWord a = joinWord s.cfg.dataLittleEndian (s.loadByte a) (s.loadByte (a + 1#52)) (s.loadByte (a + 2#52))
      (s.loadByte (a + 3#52)) := rfl

/-- A word store, read anywhere: byte `k` of the word at `a + k`, every other byte as before (`20_memory.md` R54). -/
theorem State.loadByte_storeWord (s : State) (a x v : Word) :
    (s.storeWord a v).loadByte x =
      if x = a then wordByte s.cfg.dataLittleEndian v 0
      else if x = a + 1#52 then wordByte s.cfg.dataLittleEndian v 1
      else if x = a + 2#52 then wordByte s.cfg.dataLittleEndian v 2
      else if x = a + 3#52 then wordByte s.cfg.dataLittleEndian v 3
      else s.loadByte x := by
  unfold State.storeWord
  simp only [State.loadByte_storeByte]
  by_cases h0 : x = a
  · subst h0
    have h1 : x ≠ x + 1#52 := by intro h; bv_omega
    have h2 : x ≠ x + 2#52 := by intro h; bv_omega
    have h3 : x ≠ x + 3#52 := by intro h; bv_omega
    simp only [h1, h2, h3, if_true, if_false]
  · by_cases h1 : x = a + 1#52
    · subst h1
      have h2 : a + 1#52 ≠ a + 2#52 := by intro h; bv_omega
      have h3 : a + 1#52 ≠ a + 3#52 := by intro h; bv_omega
      simp only [h0, h2, h3, if_true, if_false]
    · by_cases h2 : x = a + 2#52
      · subst h2
        have h3 : a + 2#52 ≠ a + 3#52 := by intro h; bv_omega
        simp only [h0, h1, h3, if_true, if_false]
      · simp only [h0, h1, h2, if_false]

/-- A word store leaves every byte outside its four alone (`20_memory.md` R54). -/
theorem State.loadByte_storeWord_outside (s : State) (a x v : Word) (h : 4 ≤ (x - a).toNat) :
    (s.storeWord a v).loadByte x = s.loadByte x := by
  have h0 : x ≠ a := by intro e; subst e; simp at h
  have h1 : x ≠ a + 1#52 := by intro e; subst e; bv_omega
  have h2 : x ≠ a + 2#52 := by intro e; subst e; bv_omega
  have h3 : x ≠ a + 3#52 := by intro e; subst e; bv_omega
  simp only [State.loadByte_storeWord, h0, h1, h2, h3, if_false]

/-- A word stored is read back, whatever the byte order (`20_memory.md` R53, R54). -/
theorem State.loadWord_storeWord_same (s : State) (a v : Word) : (s.storeWord a v).loadWord a = v := by
  have h10 : a + 1#52 ≠ a := by intro h; bv_omega
  have h20 : a + 2#52 ≠ a := by intro h; bv_omega
  have h21 : a + 2#52 ≠ a + 1#52 := by intro h; bv_omega
  have h30 : a + 3#52 ≠ a := by intro h; bv_omega
  have h31 : a + 3#52 ≠ a + 1#52 := by intro h; bv_omega
  have h32 : a + 3#52 ≠ a + 2#52 := by intro h; bv_omega
  simp only [State.loadWord_eq, State.loadByte_storeWord, State.storeWord_cfg, h10, h20, h21, h30, h31, h32, if_true,
    if_false]
  exact joinWord_wordByte _ v

/-- A word store leaves a word alone that shares no byte with it. -/
theorem State.loadWord_storeWord_apart (s : State) (a b v : Word) (h : 4 ≤ (b - a).toNat) (h' : 4 ≤ (a - b).toNat) :
    (s.storeWord a v).loadWord b = s.loadWord b := by
  simp only [State.loadWord_eq, State.storeWord_cfg]
  rw [s.loadByte_storeWord_outside a b v h, s.loadByte_storeWord_outside a (b + 1#52) v (by bv_omega),
    s.loadByte_storeWord_outside a (b + 2#52) v (by bv_omega), s.loadByte_storeWord_outside a (b + 3#52) v (by bv_omega)]

/-- The addresses a byte store adds to those stored to. -/
theorem State.mem_written_storeByte (s : State) (a : Word) (v : Byte) (x : Nat) :
    x ∈ (s.storeByte a v).written ↔ x = a.toNat ∨ x ∈ s.written :=
  mem_addAddress s.written a.toNat x

/-- The addresses a word store adds to those stored to. -/
theorem State.mem_written_storeWord (s : State) (a v : Word) (x : Nat) :
    x ∈ (s.storeWord a v).written ↔
      x = (a + 3#52).toNat ∨ x = (a + 2#52).toNat ∨ x = (a + 1#52).toNat ∨ x = a.toNat ∨ x ∈ s.written := by
  simp only [State.storeWord, State.mem_written_storeByte]

theorem State.storeByte_mem_wf (s : State) (a : Word) (v : Byte) (h : s.mem.wf = true) :
    (s.storeByte a v).mem.wf = true :=
  wf_setByteAt h a.isLt v

theorem State.storeWord_mem_wf (s : State) (a v : Word) (h : s.mem.wf = true) : (s.storeWord a v).mem.wf = true := by
  unfold State.storeWord
  exact State.storeByte_mem_wf _ _ _ (State.storeByte_mem_wf _ _ _ (State.storeByte_mem_wf _ _ _
    (State.storeByte_mem_wf _ _ _ h)))

theorem State.storeByte_written_wf (s : State) (a : Word) (v : Byte) (h : s.written.wf = true) :
    (s.storeByte a v).written.wf = true :=
  wf_addAddress h a.isLt

theorem State.storeWord_written_wf (s : State) (a v : Word) (h : s.written.wf = true) :
    (s.storeWord a v).written.wf = true := by
  unfold State.storeWord
  exact State.storeByte_written_wf _ _ _ (State.storeByte_written_wf _ _ _ (State.storeByte_written_wf _ _ _
    (State.storeByte_written_wf _ _ _ h)))

/-! ## The stack -/

/-- The word just pushed stands at the new stack pointer (`20_memory.md` R60). -/
theorem State.loadWord_push (s : State) (v : Word) : (s.push v).loadWord (s.sp - 4#52) = v :=
  State.loadWord_storeWord_same _ _ v

/-- A push leaves every byte outside its word alone. -/
theorem State.loadByte_push_outside (s : State) (v x : Word) (h : 4 ≤ (x - (s.sp - 4#52)).toNat) :
    (s.push v).loadByte x = s.loadByte x := by
  unfold State.push
  rw [State.loadByte_storeWord_outside _ _ _ _ h, State.loadByte_writeReg]

/-- A push leaves a word alone that shares no byte with the pushed one. -/
theorem State.loadWord_push_apart (s : State) (v b : Word) (h : 4 ≤ (b - (s.sp - 4#52)).toNat)
    (h' : 4 ≤ (s.sp - 4#52 - b).toNat) : (s.push v).loadWord b = s.loadWord b := by
  unfold State.push
  rw [State.loadWord_storeWord_apart _ _ _ _ h h', State.loadWord_writeReg]

/-! ## Refusals -/

/-- Going on unless refused answers a next state exactly where nothing is refused and the rest does. -/
theorem unlessRefused_eq_next {refusal : Option Refusal} {rest : Result} {t : State} :
    unlessRefused refusal rest = .next t ↔ refusal = none ∧ rest = .next t := by
  cases refusal <;> simp [unlessRefused]

@[simp] theorem unlessRefused_none (rest : Result) : unlessRefused none rest = rest := rfl

@[simp] theorem unlessRefused_some (r : Refusal) (rest : Result) : unlessRefused (some r) rest = .refused r := rfl

/-- The default configuration refuses no word access. -/
theorem wordRefusal_default (cfg : Config) (a : Word) (hmap : cfg.memMap = []) (hmis : cfg.misalignedOk = true) :
    wordRefusal cfg a = none := by
  simp [wordRefusal, plainByte, hmap, hmis]

/-- The default configuration refuses no byte access. -/
theorem byteRefusal_default (cfg : Config) (a : Word) (hmap : cfg.memMap = []) : byteRefusal cfg a = none := by
  simp [byteRefusal, plainByte, hmap]

theorem next_inj {s t : State} : ((Host.Outcome.next s : Result) = .next t) ↔ s = t := by
  constructor
  · intro h; injection h
  · intro h; rw [h]

/-! ## The shared meanings -/

/-- Everything taking a trap can do (`60_exceptions.md` R320). -/
theorem takeTrap_eq_next {kind : TrapKind} {ret : Word} {s t : State} :
    takeTrap kind ret s = .next t ↔
      wordRefusal s.cfg (trapVector s.cfg kind) = none ∧
        ((trapPushes s.cfg kind = true ∧ wordRefusal s.cfg (s.sp - 4#52) = none ∧
            wordRefusal s.cfg (s.sp - 8#52) = none ∧ ((s.startRecord kind).pushTrapFrame ret).enterHandler kind = t) ∨
          (trapPushes s.cfg kind = false ∧ (s.startRecord kind).enterHandler kind = t)) := by
  unfold takeTrap
  cases h : trapPushes s.cfg kind <;> simp only [unlessRefused_eq_next, next_inj, if_true, Bool.false_eq_true, if_false] <;>
    tauto

/-- Everything a return from a trap can do (`43_flow_control.md` R186). -/
theorem returnFromTrap_eq_next {s t : State} :
    returnFromTrap s = .next t ↔
      wordRefusal s.cfg s.sp = none ∧ wordRefusal s.cfg (s.sp + 4#52) = none ∧
        ((s.setSR (unpackSR s.cfg.srPos (s.loadWord s.sp))).dropWord.dropWord).setPc (s.loadWord (s.sp + 4#52)) = t := by
  simp only [returnFromTrap, unlessRefused_eq_next, next_inj]

/-- ADD always completes (`40_arith_logic.md` R123). -/
theorem addInto_eq_next (rt : RegNo) (a b : Word) (len : Nat) (s : State) :
    addInto rt a b len s = .next (((s.setSR (s.sr.afterAdd a b)).writeReg rt (a + b)).advance len) := rfl

/-- SUB always completes (`40_arith_logic.md` R124). -/
theorem subInto_eq_next (rt : RegNo) (a b : Word) (len : Nat) (s : State) :
    subInto rt a b len s = .next (((s.setSR (s.sr.afterSub s.cfg a b)).writeReg rt (a - b)).advance len) := rfl

/-- CMP always completes (`40_arith_logic.md` R125). -/
theorem compareWords_eq_next (a b : Word) (len : Nat) (s : State) :
    compareWords a b len s = .next ((s.setSR (s.sr.afterCompare s.cfg a b)).advance len) := rfl

/-- AND, OR and EOR always complete (`40_arith_logic.md` R126, R128, R129). -/
theorem logicInto_eq_next (rt : RegNo) (r : Word) (len : Nat) (s : State) :
    logicInto rt r len s = .next (((s.setSR (s.sr.setNZ r)).writeReg rt r).advance len) := rfl

/-- BIT always completes (`40_arith_logic.md` R127). -/
theorem bitTest_eq_next (a b : Word) (len : Nat) (s : State) :
    bitTest a b len s = .next ((s.setSR (s.sr.afterBit (a &&& b))).advance len) := rfl

/-- Everything LD can do (`41_load_store.md` R142). -/
theorem loadInto_eq_next {rt : RegNo} {ea : Word} {len : Nat} {s t : State} :
    loadInto rt ea len s = .next t ↔
      wordRefusal s.cfg ea = none ∧
        ((s.setSR (s.sr.setNZ (s.loadWord ea))).writeReg rt (s.loadWord ea)).advance len = t := by
  simp only [loadInto, unlessRefused_eq_next, next_inj]

/-- Everything ST can do (`41_load_store.md` R144). -/
theorem storeFrom_eq_next {rs : RegNo} {ea : Word} {len : Nat} {s t : State} :
    storeFrom rs ea len s = .next t ↔
      wordRefusal s.cfg ea = none ∧
        ((s.storeWord ea (s.readReg rs)).setSR
          (if s.cfg.stWritesNz then s.sr.setNZ (s.readReg rs) else s.sr)).advance len = t := by
  simp only [storeFrom, unlessRefused_eq_next, next_inj]

/-- The shifts and rotates always complete (`42_shift.md` R161). -/
theorem shiftInto_eq_next (rt : RegNo) (f : Shifted → Shifted) (a : Word) (k : Nat) (s : State) :
    shiftInto rt f a k s =
      .next (((s.setSR (s.sr.afterShift (repeatStep f k (a, s.sr.c)).1 (repeatStep f k (a, s.sr.c)).2)).writeReg rt
        (repeatStep f k (a, s.sr.c)).1).advance 2) := rfl

/-- Everything JSR can do (`43_flow_control.md` R183, R184). -/
theorem callSubroutine_eq_next {target : Word} {len : Nat} {s t : State} :
    callSubroutine target len s = .next t ↔
      wordRefusal s.cfg (s.sp - 4#52) = none ∧ (s.push (s.pc + BitVec.ofNat 52 len)).setPc target = t := by
  simp only [callSubroutine, unlessRefused_eq_next, next_inj]

/-- A branch always completes (`43_flow_control.md` R194). -/
theorem branchIf_eq_next {bits : Nat} (taken : Bool) (len : Nat) (disp : BitVec bits) (s : State) :
    branchIf taken len disp s =
      .next (s.setPc (if taken then s.branchTarget len disp else s.pc + BitVec.ofNat 52 len)) := by
  cases taken <;> rfl

/-- Everything one element of a move can do (`46_string.md` R264, R265). -/
theorem moveElement_eq_next {e : Element} {delta : Word} {s t : State} :
    moveElement e delta s = .next t ↔
      elementRefusal s.cfg e (s.readReg regX) = none ∧ elementRefusal s.cfg e (s.readReg regY) = none ∧
        (((s.storeElement e (s.readReg regY) (s.loadElement e (s.readReg regX))).writeReg regX
          (s.readReg regX + delta)).writeReg regY (s.readReg regY + delta)).countDown.repeatWhileCount = t := by
  simp only [moveElement, unlessRefused_eq_next, next_inj]

/-- Everything one element of a fill can do (`46_string.md` R266). -/
theorem fillElement_eq_next {e : Element} {s t : State} :
    fillElement e s = .next t ↔
      elementRefusal s.cfg e (s.readReg regY) = none ∧
        ((s.storeElement e (s.readReg regY) (s.readReg regX)).writeReg regY
          (s.readReg regY + elementSize e)).countDown.repeatWhileCount = t := by
  simp only [fillElement, unlessRefused_eq_next, next_inj]

/-- Everything one element of a compare can do (`46_string.md` R267). -/
theorem compareElement_eq_next {e : Element} {s t : State} :
    compareElement e s = .next t ↔
      elementRefusal s.cfg e (s.readReg regX) = none ∧ elementRefusal s.cfg e (s.readReg regY) = none ∧
        ((s.writeReg regX (s.readReg regX + elementSize e)).writeReg regY
          (s.readReg regY + elementSize e)).countDown.compareUnlessOut (s.loadElement e (s.readReg regX))
          (s.loadElement e (s.readReg regY)) = t := by
  simp only [compareElement, unlessRefused_eq_next, next_inj]

/-! ## Fetch and step -/

/-- Everything a fetch and its instruction can do (`00_scope.md` R14). -/
theorem State.fetchAndExecute_eq_next {s t : State} :
    s.fetchAndExecute = .next t ↔ ∃ i, s.fetch = .instruction i ∧ exec i s = .next t := by
  unfold State.fetchAndExecute
  cases s.fetch <;> simp

/-- Everything a step can do (`60_exceptions.md` R330). -/
theorem step_eq_next {s t : State} :
    step s = .next t ↔
      (∃ kind, s.boundary = .trap kind ∧ takeTrap kind s.pc s.takeRequests = .next t) ∨
        (s.boundary = .idle ∧ s.takeRequests = t) ∨
          (s.boundary = .wake ∧ s.takeRequests.wake = t) ∨
            (s.boundary = .execute ∧
              ∃ i, s.takeRequests.fetch = .instruction i ∧ exec i s.takeRequests = .next t) := by
  unfold step
  cases s.boundary <;> simp [State.fetchAndExecute_eq_next]

end Sys2Proof.Machine
end

