-- ==== Sys2Proof/Laws/Operands.lean ====
section
/-! SUPPORT. Operands, targets and accesses on numbers. -/

namespace Sys2Proof.Machine

/-- An extended field as a number (`00_scope.md` R13). -/
theorem toNat_extendField {len : Nat} (hle : len ≤ 52) (e : Extension) (v : BitVec len) :
    (extendField e v).toNat = extendedValue e v := by
  have hv := v.isLt
  have hpow : 2 ^ len ≤ 2 ^ 52 := Nat.pow_le_pow_right (by decide) hle
  cases e
  · simp only [extendField, extendedValue]
    rw [BitVec.toNat_signExtend, BitVec.msb_eq_decide]
    simp only [BitVec.toNat_setWidth]
    rw [Nat.mod_eq_of_lt (by omega)]
    by_cases h : 2 ^ (len - 1) ≤ v.toNat
    · simp only [h, decide_true, if_true]
      omega
    · simp [h]
  · simp only [extendField, extendedValue, BitVec.truncate_eq_setWidth, BitVec.toNat_setWidth]
    exact Nat.mod_eq_of_lt (by omega)

theorem toNat_immediate {len : Nat} (hle : len ≤ 52) (cfg : Config) (v : BitVec len) :
    (immediate cfg v).toNat = extendedValue cfg.immExt v :=
  toNat_extendField hle _ v

/-- The target of an absolute jump as a number (`43_flow_control.md` R181). -/
theorem toNat_jumpTarget (s : State) (addr : BitVec 46) :
    (s.jumpTarget addr).toNat = jumpTargetNumber s.cfg s.pc.toNat addr.toNat := by
  unfold State.jumpTarget jumpTargetNumber
  have h := addr.isLt
  cases s.cfg.jmp46High
  · simp; omega
  · simp only [BitVec.toNat_append]
    rw [← Nat.shiftLeft_add_eq_or_of_lt h]
    simp only [BitVec.extractLsb'_toNat, Nat.shiftRight_eq_div_pow, Nat.shiftLeft_eq]
    have := s.pc.isLt
    omega

/-- A displacement added to an address, as a number. -/
theorem toNat_add_signExtend {bits : Nat} (hb : bits ≤ 52) (x : Word) (disp : BitVec bits) :
    (x + disp.signExtend 52).toNat = (((x.toNat : Int) + disp.toInt) % 2 ^ 52).toNat := by
  have h1 : (disp.signExtend 52).toInt = disp.toInt := BitVec.toInt_signExtend_of_le hb
  have h2 := (disp.signExtend 52).isLt
  have h3 := x.isLt
  rw [← h1, BitVec.toInt_eq_toNat_cond, BitVec.toNat_add]
  split <;> omega

/-- The target of a branch as a number (`43_flow_control.md` R191). -/
theorem toNat_branchTarget {bits : Nat} (s : State) (len : Nat) (hl : len ≤ 4) (hb : bits ≤ 52) (disp : BitVec bits) :
    (s.branchTarget len disp).toNat = branchTargetNumber s.cfg s.pc.toNat len disp.toInt := by
  unfold State.branchTarget branchTargetNumber
  have := s.pc.isLt
  cases s.cfg.branchBase
  · simp only
    rw [toNat_add_signExtend hb, BitVec.toNat_add, BitVec.toNat_ofNat]
    omega
  · exact toNat_add_signExtend hb _ _

theorem pcAdvanced_of_eq {s t : State} {len : Nat} (h : t.pc = s.pc + BitVec.ofNat 52 len) : PcAdvanced s t len := by
  unfold PcAdvanced
  rw [h, BitVec.toNat_add, BitVec.toNat_ofNat]
  omega

/-! ## Accesses -/

theorem plainByte_eq_true (cfg : Config) (a : Word) : plainByte cfg a = true ↔ ByteAccessible cfg a := by
  simp only [plainByte, List.all_eq_true, ByteAccessible, Bool.not_eq_true', Bool.and_eq_false_iff,
    decide_eq_false_iff_not, not_le, not_lt]

theorem byteRefusal_eq_none (cfg : Config) (a : Word) : byteRefusal cfg a = none ↔ ByteAccessible cfg a := by
  rw [← plainByte_eq_true]
  unfold byteRefusal
  split <;> simp_all

/-- The four plain bytes of a word. -/
theorem plainWord_eq_true (cfg : Config) (a : Word) :
    (plainByte cfg a && plainByte cfg (a + 1#52) && plainByte cfg (a + 2#52) && plainByte cfg (a + 3#52)) = true ↔
      ∀ k < 4, ByteAccessible cfg (a + BitVec.ofNat 52 k) := by
  simp only [Bool.and_eq_true, plainByte_eq_true]
  constructor
  · rintro ⟨⟨⟨h0, h1⟩, h2⟩, h3⟩ k hk
    match k, hk with
    | 0, _ => simpa using h0
    | 1, _ => exact h1
    | 2, _ => exact h2
    | 3, _ => exact h3
  · intro h
    exact ⟨⟨⟨by simpa using h 0 (by decide), h 1 (by decide)⟩, h 2 (by decide)⟩, h 3 (by decide)⟩

/-- Everything the check of a word access can answer (`20_memory.md` R57, R65). -/
theorem wordRefusal_cases (cfg : Config) (a : Word) :
    (WordAccessible cfg a ∧ wordRefusal cfg a = none) ∨
      (¬ WordAccessible cfg a ∧ cfg.memMap ≠ [] ∧ wordRefusal cfg a = some .notPlainMemory) ∨
        (¬ WordAccessible cfg a ∧ cfg.misalignedOk = false ∧ wordRefusal cfg a = some .misalignedWord) := by
  unfold WordAccessible wordRefusal
  rw [← plainWord_eq_true]
  cases hp : plainByte cfg a && plainByte cfg (a + 1#52) && plainByte cfg (a + 2#52) && plainByte cfg (a + 3#52)
  · have : cfg.memMap ≠ [] := by
      intro he
      simp [plainByte, he] at hp
    simp [this]
  · cases cfg.misalignedOk <;> by_cases ha : a.toNat % 4 = 0 <;> simp [ha]

theorem wordRefusal_eq_none (cfg : Config) (a : Word) : wordRefusal cfg a = none ↔ WordAccessible cfg a := by
  rcases wordRefusal_cases cfg a with ⟨h, e⟩ | ⟨h, -, e⟩ | ⟨h, -, e⟩
  · exact ⟨fun _ => h, fun _ => e⟩
  · exact ⟨fun hn => by simp [e] at hn, fun ha => absurd ha h⟩
  · exact ⟨fun hn => by simp [e] at hn, fun ha => absurd ha h⟩

end Sys2Proof.Machine
end

