-- ==== Sys2Proof/Laws/Strings.lean ====
section
/-! SUPPORT. The parts of one element of a string instruction, and of a trap entry: what each leaves alone. -/

namespace Sys2Proof.Machine

/-! ## Stored elements -/

@[simp] theorem State.storeElement_cfg (s : State) (e : Element) (a v : Word) : (s.storeElement e a v).cfg = s.cfg := by
  cases e <;> rfl

@[simp] theorem State.storeElement_regs (s : State) (e : Element) (a v : Word) :
    (s.storeElement e a v).regs = s.regs := by
  cases e <;> rfl

@[simp] theorem State.storeElement_pc (s : State) (e : Element) (a v : Word) : (s.storeElement e a v).pc = s.pc := by
  cases e <;> rfl

@[simp] theorem State.storeElement_sr (s : State) (e : Element) (a v : Word) : (s.storeElement e a v).sr = s.sr := by
  cases e <;> rfl

@[simp] theorem State.storeElement_run (s : State) (e : Element) (a v : Word) : (s.storeElement e a v).run = s.run := by
  cases e <;> rfl

@[simp] theorem State.storeElement_code (s : State) (e : Element) (a v : Word) :
    (s.storeElement e a v).code = s.code := by
  cases e <;> rfl

@[simp] theorem State.storeElement_inputs (s : State) (e : Element) (a v : Word) :
    (s.storeElement e a v).inputs = s.inputs := by
  cases e <;> rfl

@[simp] theorem State.readReg_storeElement (s : State) (e : Element) (a v : Word) (r : RegNo) :
    (s.storeElement e a v).readReg r = s.readReg r := by
  cases e <;> rfl

/-! ## The count -/

@[simp] theorem State.countDown_cfg (s : State) : s.countDown.cfg = s.cfg := by simp [State.countDown]

@[simp] theorem State.countDown_pc (s : State) : s.countDown.pc = s.pc := by simp [State.countDown]

@[simp] theorem State.countDown_run (s : State) : s.countDown.run = s.run := by simp [State.countDown]

@[simp] theorem State.countDown_mem (s : State) : s.countDown.mem = s.mem := by simp [State.countDown]

@[simp] theorem State.countDown_code (s : State) : s.countDown.code = s.code := by simp [State.countDown]

@[simp] theorem State.countDown_written (s : State) : s.countDown.written = s.written := by simp [State.countDown]

@[simp] theorem State.countDown_inputs (s : State) : s.countDown.inputs = s.inputs := by simp [State.countDown]

theorem State.countDown_sr (s : State) :
    s.countDown.sr = if s.cfg.stringFlagsFromCount then s.sr.afterSub s.cfg (s.readReg regAcc) 1#52 else s.sr := by
  simp [State.countDown]

theorem State.readReg_countDown (s : State) (r : RegNo) :
    s.countDown.readReg r = if r = regAcc then s.readReg regAcc - 1#52 else s.readReg r := by
  unfold State.countDown
  rw [State.readReg_writeReg]
  by_cases h : r = 0#5
  · subst h; rfl
  · simp [h]

/-- Everything the repeat can do (`46_string.md` R261, R263). -/
theorem State.repeatWhileCount_cases (s : State) :
    (s.readReg regAcc = 0#52 ∧ s.repeatWhileCount = s.advance 1) ∨
      (s.readReg regAcc ≠ 0#52 ∧ s.repeatWhileCount = s) := by
  unfold State.repeatWhileCount
  split <;> simp [*]

/-- Everything the end of a compare can do (`46_string.md` R267). -/
theorem State.compareUnlessOut_cases (s : State) (t1 t2 : Word) :
    (s.readReg regAcc = 0#52 ∧ s.compareUnlessOut t1 t2 = s.advance 1) ∨
      (s.readReg regAcc ≠ 0#52 ∧ t1 - t2 = 0#52 ∧
        s.compareUnlessOut t1 t2 = s.setSR (s.sr.afterCompare s.cfg t1 t2)) ∨
        (s.readReg regAcc ≠ 0#52 ∧ t1 - t2 ≠ 0#52 ∧
          s.compareUnlessOut t1 t2 = (s.setSR (s.sr.afterCompare s.cfg t1 t2)).advance 1) := by
  unfold State.compareUnlessOut
  by_cases h : s.readReg regAcc = 0#52
  · simp [h]
  · by_cases e : t1 - t2 = 0#52 <;> simp [h, e]

/-! ## The pushes of a trap entry -/

@[simp] theorem State.pushTrapFrame_cfg (s : State) (ret : Word) : (s.pushTrapFrame ret).cfg = s.cfg := by
  simp [State.pushTrapFrame]

@[simp] theorem State.pushTrapFrame_pc (s : State) (ret : Word) : (s.pushTrapFrame ret).pc = s.pc := by
  simp [State.pushTrapFrame]

@[simp] theorem State.pushTrapFrame_sr (s : State) (ret : Word) : (s.pushTrapFrame ret).sr = s.sr := by
  simp [State.pushTrapFrame]

@[simp] theorem State.pushTrapFrame_run (s : State) (ret : Word) : (s.pushTrapFrame ret).run = s.run := by
  simp [State.pushTrapFrame]

@[simp] theorem State.pushTrapFrame_code (s : State) (ret : Word) : (s.pushTrapFrame ret).code = s.code := by
  simp [State.pushTrapFrame]

@[simp] theorem State.pushTrapFrame_inputs (s : State) (ret : Word) : (s.pushTrapFrame ret).inputs = s.inputs := by
  simp [State.pushTrapFrame]

/-- The second push ends eight bytes below the old stack pointer. -/
theorem sub_four_four (a : Word) : a - 4#52 - 4#52 = a - 8#52 := by bv_omega

theorem State.readReg_pushTrapFrame (s : State) (ret : Word) (r : RegNo) :
    (s.pushTrapFrame ret).readReg r = if r = regSp then s.sp - 8#52 else s.readReg r := by
  unfold State.pushTrapFrame
  rw [State.readReg_push]
  split
  · rw [State.sp_push, sub_four_four]
  · rename_i h
    simp [State.readReg_push, h]

/-- The return address stands at the old stack pointer minus 4 (`60_exceptions.md` R320). -/
theorem State.loadWord_pushTrapFrame_ret (s : State) (ret : Word) :
    (s.pushTrapFrame ret).loadWord (s.sp - 4#52) = ret := by
  unfold State.pushTrapFrame
  rw [State.loadWord_push_apart, State.loadWord_push]
  · rw [State.sp_push, sub_four_four]; bv_omega
  · rw [State.sp_push, sub_four_four]; bv_omega

/-- The SR image, as it was, stands at the old stack pointer minus 8 (`60_exceptions.md` R320). -/
theorem State.loadWord_pushTrapFrame_image (s : State) (ret : Word) :
    (s.pushTrapFrame ret).loadWord (s.sp - 8#52) = packSR s.cfg.srPos s.sr := by
  have h := State.loadWord_push (s.push ret) (packSR s.cfg.srPos s.sr)
  rwa [State.sp_push, sub_four_four] at h

/-- The two pushes leave every byte outside their eight alone. -/
theorem State.loadByte_pushTrapFrame_outside (s : State) (ret x : Word) (h : 8 ≤ (x - (s.sp - 8#52)).toNat) :
    (s.pushTrapFrame ret).loadByte x = s.loadByte x := by
  unfold State.pushTrapFrame
  rw [State.loadByte_push_outside, State.loadByte_push_outside]
  · bv_omega
  · rw [State.sp_push, sub_four_four]; bv_omega

end Sys2Proof.Machine
end

