-- ==== Sys2Proof/Tests/Slice0.lean ====
section
/-! SUPPORT. The model's own tests: ill-formed terms are refused, written-out words decode, one step of each
instruction on a small state, and a witness for every statement that has hypotheses. Words and expected values are
those of `95_test_vectors.md`, or hand calculation from the rules where that file has no row. -/

namespace Sys2Proof.Tests

open Sys2Proof.Machine

/-! ## Helpers -/

/-- The default configuration with the three OPEN vectors as `95_test_vectors.md` section 2.8 sets them. -/
def cfg : Config :=
  { Config.default with vecRst := 0x0FF0#52, vecNmi := 0x0FF4#52, vecIrq := 0x0FF8#52 }

/-- Memory holding some little-endian words. -/
def wordsIn : List (Word × Word) → Memory
  | [] => []
  | x :: rest =>
    (List.range 4).foldl (fun m k => setByteAt m (x.1 + BitVec.ofNat 52 k).toNat (x.2.extractLsb' (13 * k) 13))
      (wordsIn rest)

/-- The status register with some flags set. -/
def flags (set : List Flag) : StatusRegister :=
  { c := decide (.c ∈ set), z := decide (.z ∈ set), i := decide (.i ∈ set), d := decide (.d ∈ set),
    u := decide (.u ∈ set), v := decide (.v ∈ set), n := decide (.n ∈ set), b := decide (.b ∈ set) }

/-- A running core: pc, the flags set, the registers and the words of memory that are not 0. -/
def core (pc : Word) (set : List Flag) (regs : List (RegNo × Word)) (words : List (Word × Word)) : State where
  cfg := cfg
  regs := regs.foldl (fun r x => r.set x.1.toNat x.2 x.1.isLt) (Vector.replicate 32 0)
  pc := pc
  sr := flags set
  run := .running
  mem := wordsIn words
  code := []
  written := []
  inputs := []

/-- An outcome that is a next state of which something holds. -/
def goesTo (r : Result) (p : State → Bool) : Bool :=
  match r with
  | .next t => p t
  | .fault _ => false
  | .refused _ => false

/-- An outcome that is a given fault. -/
def faultsWith (r : Result) (f : Fault) : Bool :=
  match r with
  | .next _ => false
  | .fault g => g == f
  | .refused _ => false

/-- An outcome that is a given refusal. -/
def refusesWith (r : Result) (f : Refusal) : Bool :=
  match r with
  | .next _ => false
  | .fault _ => false
  | .refused g => g == f

/-- pc, the whole status register, some registers and some words after a step. -/
def shows (t : State) (pc : Word) (set : List Flag) (regs : List (RegNo × Word)) (words : List (Word × Word)) : Bool :=
  t.pc == pc && t.sr == flags set && regs.all (fun x => t.readReg x.1 == x.2) &&
    words.all (fun x => t.loadWord x.1 == x.2)

/-- The step that fetches and runs the instruction whose bits are `w`. -/
def ends (w : Nat) (s : State) (pc : Word) (set : List Flag) (regs : List (RegNo × Word))
    (words : List (Word × Word)) : Bool :=
  goesTo (step (s.withFetchWord 52 w)) fun t => shows t pc set regs words

/-- The four vectors of `95_test_vectors.md` section 2.8. -/
def vectorWords : List (Word × Word) :=
  [(0xFFFFFFFFFFFC, 0x6000), (0xFF0, 0x7000), (0xFF4, 0x7100), (0xFF8, 0x7200)]

/-! ## Ill-formed terms -/

theorem test_sub_register_without_target_refused : (Instr.subRR 0 5 6).wellFormed = false := by decide
theorem test_sub_imm9_without_target_refused : (Instr.subI9 0 5 7).wellFormed = false := by decide
theorem test_sub_imm23_without_target_refused : (Instr.subI23 0 5 7).wellFormed = false := by decide
theorem test_sub_imm36_without_target_refused : (Instr.subI36 0 5 7).wellFormed = false := by decide
theorem test_and_register_without_target_refused : (Instr.andRR 0 5 6).wellFormed = false := by decide
theorem test_and_imm9_without_target_refused : (Instr.andI9 0 5 7).wellFormed = false := by decide
theorem test_and_imm23_without_target_refused : (Instr.andI23 0 5 7).wellFormed = false := by decide
theorem test_and_imm36_without_target_refused : (Instr.andI36 0 5 7).wellFormed = false := by decide
theorem test_add_to_r0_well_formed : (Instr.addRR 0 5 6).wellFormed = true := by decide

/-! ## Decoding -/

/-- The further decode vectors of `95_test_vectors.md` section 2.9 that are no instruction. -/
theorem test_unassigned_refused :
    ∀ w ∈ [0x00D4, 0x0154, 0x011C, 0x01DC, 0x0055, 0x01DD, 0x0003, 0x1FFF, 0x0010, 0x002D],
      decodeTableWord 13 w = none := by
  decide

/-- Unused bits are ignored (`30_encoding.md` R99; `95_test_vectors.md` sections 2.3 and 2.9). -/
theorem test_unused_bits_ignored :
    decodeTableWord 13 0x1FD4 = some .nop ∧ decodeTableWord 13 0x1FFD = some .php ∧
      decodeTableWord 13 0x1836 = some (.pop 0) ∧ decodeTableWord 26 0x3C12906 = some (.aslI6 4 5 1) := by
  decide

/-- The other opcode map for ROL and LSR (`90_conflicts.md` C1). -/
theorem test_swapped_rol_lsr :
    decodeWord true 0x201290E#52 = .ok (.lsrI6 4 5 1) ∧ decodeWord true 0x2012916#52 = .ok (.rolI6 4 5 1) := by
  decide

/-- An instruction is no longer than its length: the byte after it is not looked at, and a list that ends inside
it is refused by name (`30_encoding.md` R81). -/
theorem test_decode_takes_its_length :
    decode false [0x0900, 0x0031, 0x1FFF] = .ok (.addRR 4 5 6) ∧ decode false [0x0900] = .error .truncated := by
  decide

/-- Arithmetic: ADD, CMP, SUB (`30_encoding.md` R83 to R86, R95, R96). -/
theorem test_decode_add_sub_cmp :
    decodeTableWord 26 0x0062900 = some (.addRR 4 5 6) ∧
    decodeTableWord 26 0x3002900 = some (.addI9 4 5 (-256)) ∧
    decodeTableWord 39 0x3FFFFF0101 = some (.addI23 4 0 0x3fffff) ∧
    decodeTableWord 52 0x7FFFFFFFF0102 = some (.addI36 4 0 0x7ffffffff) ∧
    decodeTableWord 26 0x0062808 = some (.cmpRR 5 6) ∧
    decodeTableWord 26 0x2072808 = some (.cmpI9 5 7) ∧
    decodeTableWord 39 0x0123452809 = some (.cmpI23 5 0x12345) ∧
    decodeTableWord 52 0x123456789280A = some (.cmpI36 5 0x123456789) ∧
    decodeTableWord 26 0x0062908 = some (.subRR 4 5 6) ∧
    decodeTableWord 26 0x3FF2908 = some (.subI9 4 5 (-1)) ∧
    decodeTableWord 39 0x0123452909 = some (.subI23 4 5 0x12345) ∧
    decodeTableWord 52 0x123456789290A = some (.subI36 4 5 0x123456789) := by
  decide

/-- Logic: BIT, AND, OR, EOR. -/
theorem test_decode_logic :
    decodeTableWord 26 0x0062818 = some (.bitRR 5 6) ∧
    decodeTableWord 26 0x3FF2818 = some (.bitI9 5 (-1)) ∧
    decodeTableWord 39 0x0123452819 = some (.bitI23 5 0x12345) ∧
    decodeTableWord 52 0x123456789281A = some (.bitI36 5 0x123456789) ∧
    decodeTableWord 26 0x0062918 = some (.andRR 4 5 6) ∧
    decodeTableWord 26 0x2F02918 = some (.andI9 4 5 240) ∧
    decodeTableWord 39 0x0123452919 = some (.andI23 4 5 0x12345) ∧
    decodeTableWord 52 0x123456789291A = some (.andI36 4 5 0x123456789) ∧
    decodeTableWord 26 0x0062920 = some (.orRR 4 5 6) ∧
    decodeTableWord 26 0x3002920 = some (.orI9 4 5 (-256)) ∧
    decodeTableWord 39 0x0123452921 = some (.orI23 4 5 0x12345) ∧
    decodeTableWord 52 0x1234567892922 = some (.orI36 4 5 0x123456789) ∧
    decodeTableWord 26 0x0052928 = some (.eorRR 4 5 5) ∧
    decodeTableWord 26 0x3FF2928 = some (.eorI9 4 5 (-1)) ∧
    decodeTableWord 39 0x1555552929 = some (.eorI23 4 5 0x155555) ∧
    decodeTableWord 52 0x123456789292A = some (.eorI36 4 5 0x123456789) := by
  decide

/-- Loads and stores. -/
theorem test_decode_load_store :
    decodeTableWord 26 0x0062930 = some (.ldRR 4 5 6) ∧
    decodeTableWord 26 0x2082930 = some (.ldD9 4 5 8) ∧
    decodeTableWord 39 0x0030080131 = some (.ldD23 4 0 0x3008) ∧
    decodeTableWord 52 0x0123456780132 = some (.ldD36 4 0 0x12345678) ∧
    decodeTableWord 52 0xFFFFFFFFF2934 = some (.ldb 4 5 (-1)) ∧
    decodeTableWord 26 0x0062938 = some (.stRR 4 5 6) ∧
    decodeTableWord 26 0x3F82938 = some (.stD9 4 5 (-8)) ∧
    decodeTableWord 39 0x0030000039 = some (.stD23 0 0 0x3000) ∧
    decodeTableWord 52 0x123456789293A = some (.stD36 4 5 0x123456789) ∧
    decodeTableWord 52 0x000000002293C = some (.stb 4 5 2) := by
  decide

/-- Shifts and rotates. -/
theorem test_decode_shift :
    decodeTableWord 26 0x0062906 = some (.aslRR 4 5 6) ∧
    decodeTableWord 26 0x23F2906 = some (.aslI6 4 5 63) ∧
    decodeTableWord 26 0x006290E = some (.rolRR 4 5 6) ∧
    decodeTableWord 26 0x233290E = some (.rolI6 4 5 51) ∧
    decodeTableWord 26 0x0062916 = some (.lsrRR 4 5 6) ∧
    decodeTableWord 26 0x2094A56 = some (.lsrI6 9 9 9) ∧
    decodeTableWord 26 0x006291E = some (.rorRR 4 5 6) ∧
    decodeTableWord 26 0x235291E = some (.rorI6 4 5 53) := by
  decide

/-- Flow control. -/
theorem test_decode_flow :
    decodeTableWord 52 0x048D159E26AC4 = some (.jmpAbs 0x123456789ab) ∧
    decodeTableWord 52 0x000000008080C = some (.jsrAbs 8224) ∧
    decodeTableWord 13 0x01E4 = some (.jmpReg 7) ∧
    decodeTableWord 13 0x07EC = some (.jsrReg 31) ∧
    decodeTableWord 13 0x0014 = some .rts ∧
    decodeTableWord 13 0x0054 = some .rti ∧
    decodeTableWord 13 0x0094 = some .pfi ∧
    decodeTableWord 13 0x0114 = some .wai ∧
    decodeTableWord 13 0x0194 = some .stp ∧
    decodeTableWord 13 0x01D4 = some .nop := by
  decide

/-- Branches. -/
theorem test_decode_branch :
    decodeTableWord 13 0x0A05 = some (.beqD4 5) ∧
    decodeTableWord 13 0x0A45 = some (.bneD4 5) ∧
    decodeTableWord 13 0x0A85 = some (.bplD4 5) ∧
    decodeTableWord 13 0x0AC5 = some (.bmiD4 5) ∧
    decodeTableWord 13 0x0B05 = some (.bvsD4 5) ∧
    decodeTableWord 13 0x0B45 = some (.bvcD4 5) ∧
    decodeTableWord 13 0x0B85 = some (.bcsD4 5) ∧
    decodeTableWord 13 0x0BC5 = some (.bccD4 5) ∧
    decodeTableWord 26 0x007D00D = some (.beqD17 1000) ∧
    decodeTableWord 26 0x200004D = some (.bneD17 (-65536)) ∧
    decodeTableWord 26 0x002588D = some (.bplD17 300) ∧
    decodeTableWord 26 0x00258CD = some (.bmiD17 300) ∧
    decodeTableWord 26 0x002590D = some (.bvsD17 300) ∧
    decodeTableWord 26 0x002594D = some (.bvcD17 300) ∧
    decodeTableWord 26 0x3FFFD8D = some (.bcsD17 (-2)) ∧
    decodeTableWord 26 0x00259CD = some (.bccD17 300) ∧
    decodeTableWord 13 0x1415 = some (.braD4 (-6)) ∧
    decodeTableWord 26 0x3FDA81D = some (.braD17 (-300)) := by
  decide

/-- Traps, stack, status. -/
theorem test_decode_trap_stack_status :
    decodeTableWord 13 0x001C = some .rst ∧
    decodeTableWord 13 0x005C = some .nmi ∧
    decodeTableWord 13 0x009C = some .irq ∧
    decodeTableWord 13 0x0ADC = some (.brk 5) ∧
    decodeTableWord 13 0x003D = some .php ∧
    decodeTableWord 13 0x007E = some (.psh 1) ∧
    decodeTableWord 13 0x0035 = some .plp ∧
    decodeTableWord 13 0x00B6 = some (.pop 2) ∧
    decodeTableWord 13 0x0866 = some (.sep 33) ∧
    decodeTableWord 13 0x086E = some (.rep 33) := by
  decide

/-- Strings. -/
theorem test_decode_string :
    decodeTableWord 13 0x0025 = some .mvnb ∧
    decodeTableWord 13 0x0065 = some .mvpb ∧
    decodeTableWord 13 0x00A5 = some .stsb ∧
    decodeTableWord 13 0x00E5 = some .cmpsb ∧
    decodeTableWord 13 0x0125 = some .mvn ∧
    decodeTableWord 13 0x0165 = some .mvp ∧
    decodeTableWord 13 0x01A5 = some .sts ∧
    decodeTableWord 13 0x01E5 = some .cmps := by
  decide

/-! ## One step of each instruction -/

theorem test_add_carry :
    ends 0x62900 (core 0x100 [] [(5, 0xFFFFFFFFFFFFF), (6, 1)]
        [])
      0x102 [.c, .z] [(4, 0)]
      [] = true := by
  decide

theorem test_add_overflow_clears_c :
    ends 0x62900 (core 0x100 [.c] [(5, 0x7FFFFFFFFFFFF), (6, 1)]
        [])
      0x102 [.n, .v] [(4, 0x8000000000000)]
      [] = true := by
  decide

theorem test_add_i9_sign :
    ends 0x3002900 (core 0x100 [] [(5, 0x100)]
        [])
      0x102 [.c, .z] [(4, 0)]
      [] = true := by
  decide

theorem test_add_i23_negative :
    ends 0x4000000101 (core 0x100 [] []
        [])
      0x103 [.n] [(4, 0xFFFFFFFC00000)]
      [] = true := by
  decide

theorem test_add_i36_negative :
    ends 0x8000000000102 (core 0x100 [] []
        [])
      0x104 [.n] [(4, 0xFFFF800000000)]
      [] = true := by
  decide

theorem test_add_r0_discards :
    ends 0x62800 (core 0x100 [] [(5, 0xFFFFFFFFFFFFF), (6, 1)]
        [])
      0x102 [.c, .z] [(0, 0), (4, 0)]
      [] = true := by
  decide

theorem test_sub_borrow :
    ends 0x62908 (core 0x100 [.c] [(5, 3), (6, 5)]
        [])
      0x102 [.n] [(4, 0xFFFFFFFFFFFFE)]
      [] = true := by
  decide

theorem test_sub_overflow :
    ends 0x62908 (core 0x100 [] [(5, 0x8000000000000), (6, 1)]
        [])
      0x102 [.c, .v] [(4, 0x7FFFFFFFFFFFF)]
      [] = true := by
  decide

theorem test_sub_i9_minus_one :
    ends 0x3FF2908 (core 0x100 [] [(5, 0)]
        [])
      0x102 [] [(4, 1)]
      [] = true := by
  decide

theorem test_sub_i23 :
    ends 0x123452909 (core 0x100 [.v] [(5, 0x12345)]
        [])
      0x103 [.c, .z] [(4, 0)]
      [] = true := by
  decide

theorem test_sub_i36 :
    ends 0x123456789290A (core 0x100 [] [(5, 0x12345678A)]
        [])
      0x104 [.c] [(4, 1)]
      [] = true := by
  decide

theorem test_cmp_keeps_v :
    ends 0x62808 (core 0x100 [.v] [(5, 0x8000000000000), (6, 1)]
        [])
      0x102 [.c, .v] [(4, 0), (5, 0x8000000000000)]
      [] = true := by
  decide

theorem test_cmp_i9_equal :
    ends 0x2072808 (core 0x100 [.v] [(5, 7)]
        [])
      0x102 [.c, .z, .v] [(5, 7)]
      [] = true := by
  decide

theorem test_cmp_i23_less :
    ends 0x123452809 (core 0x100 [] [(5, 0x12344)]
        [])
      0x103 [.n] [(5, 0x12344)]
      [] = true := by
  decide

theorem test_cmp_i36 :
    ends 0x123456789280A (core 0x100 [.v] [(5, 0x12345678A)]
        [])
      0x104 [.c, .v] []
      [] = true := by
  decide

theorem test_and_keeps_c_v :
    ends 0x62918 (core 0x100 [.c, .v] [(5, 0xF0F0), (6, 0xFF00)]
        [])
      0x102 [.c, .v] [(4, 0xF000)]
      [] = true := by
  decide

theorem test_and_i9 :
    ends 0x3FF2918 (core 0x100 [] [(5, 0xABCDEF0123456)]
        [])
      0x102 [.n] [(4, 0xABCDEF0123456)]
      [] = true := by
  decide

theorem test_and_i23 :
    ends 0x4000002919 (core 0x100 [] [(5, 0xFFFFFFFFFFFFF)]
        [])
      0x103 [.n] [(4, 0xFFFFFFFC00000)]
      [] = true := by
  decide

theorem test_and_i36 :
    ends 0x123456789291A (core 0x100 [.n] [(5, 0xF0F0F0F0F)]
        [])
      0x104 [] [(4, 0x103050709)]
      [] = true := by
  decide

theorem test_bit_v_is_bit_50 :
    ends 0x62818 (core 0x100 [] [(5, 0xFFFFFFFFFFFFF), (6, 0x4000000000000)]
        [])
      0x102 [.v] [(4, 0), (5, 0xFFFFFFFFFFFFF)]
      [] = true := by
  decide

theorem test_bit_i9 :
    ends 0x3FF2818 (core 0x100 [.c] [(5, 0xC000000000000)]
        [])
      0x102 [.c, .n, .v] [(5, 0xC000000000000)]
      [] = true := by
  decide

theorem test_bit_i23_zero :
    ends 0xF2819 (core 0x100 [.v, .c] [(5, 0xF0)]
        [])
      0x103 [.c, .z] []
      [] = true := by
  decide

theorem test_bit_i36 :
    ends 0x800000000281A (core 0x100 [] [(5, 0xFFFFFFFFFFFFF)]
        [])
      0x104 [.n, .v] []
      [] = true := by
  decide

theorem test_or :
    ends 0x62920 (core 0x100 [.c, .v] [(5, 0xF0), (6, 0xF)]
        [])
      0x102 [.c, .v] [(4, 0xFF)]
      [] = true := by
  decide

theorem test_or_i9 :
    ends 0x3002920 (core 0x100 [] [(5, 1)]
        [])
      0x102 [.n] [(4, 0xFFFFFFFFFFF01)]
      [] = true := by
  decide

theorem test_or_i23 :
    ends 0x3FFFFF0121 (core 0x100 [.n] []
        [])
      0x103 [] [(4, 0x3FFFFF)]
      [] = true := by
  decide

theorem test_or_i36 :
    ends 0x1234567892922 (core 0x100 [] [(5, 0x10)]
        [])
      0x104 [] [(4, 0x123456799)]
      [] = true := by
  decide

theorem test_eor_self :
    ends 0x52928 (core 0x100 [.c, .v, .n] [(5, 0x1234)]
        [])
      0x102 [.c, .v, .z] [(4, 0)]
      [] = true := by
  decide

theorem test_eor_i9 :
    ends 0x3FF2928 (core 0x100 [] [(5, 0)]
        [])
      0x102 [.n] [(4, 0xFFFFFFFFFFFFF)]
      [] = true := by
  decide

theorem test_eor_i23 :
    ends 0x1555552929 (core 0x100 [] [(5, 0xFFFFF)]
        [])
      0x103 [] [(4, 0x1AAAAA)]
      [] = true := by
  decide

theorem test_eor_i36 :
    ends 0x123456789292A (core 0x100 [] [(5, 0x123456788)]
        [])
      0x104 [] [(4, 1)]
      [] = true := by
  decide

theorem test_ld_indexed :
    ends 0x62930 (core 0x100 [.n, .z] [(5, 0x3000), (6, 8)]
        [(0x3008, 0x123456789ABCD)])
      0x102 [] [(4, 0x123456789ABCD)]
      [] = true := by
  decide

theorem test_ld_wraps :
    ends 0x62930 (core 0x100 [] [(5, 0xFFFFFFFFFFFFF), (6, 0xFFFFFFFFFFFFF)]
        [(0xFFFFFFFFFFFFC, 0x10004000000), (0, 0x2008003)])
      0x102 [.n] [(4, 0x802000C004001)]
      [] = true := by
  decide

theorem test_ld_d9_misaligned :
    ends 0x2012930 (core 0x100 [] [(5, 0x3000)]
        [(0x3000, 0x123456789ABCD), (0x3004, 0x1FFF)])
      0x102 [.n] [(4, 0xFFF891A2B3C4D)]
      [] = true := by
  decide

theorem test_ld_d23 :
    ends 0x30080131 (core 0x100 [] []
        [(0x3008, 0x123456789ABCD)])
      0x103 [] [(4, 0x123456789ABCD)]
      [] = true := by
  decide

theorem test_ld_d36 :
    ends 0x123456780132 (core 0x100 [] []
        [(0x12345678, 0x8000000000000)])
      0x104 [.n] [(4, 0x8000000000000)]
      [] = true := by
  decide

theorem test_ldb_sign :
    ends 0x30010134 (core 0x100 [] []
        [(0x3000, 0x123456789ABCD)])
      0x104 [.n] [(4, 0xFFFFFFFFFFC4D)]
      [] = true := by
  decide

theorem test_ldb_negative_displacement :
    ends 0xFFFFFFFFF2934 (core 0x100 [] [(5, 0x3001)]
        [(0x3000, 0xABC)])
      0x104 [] [(4, 0xABC)]
      [] = true := by
  decide

theorem test_st_indexed :
    ends 0x62938 (core 0x100 [.n, .z] [(4, 0x123456789ABCD), (5, 0x3000), (6, 8)]
        [])
      0x102 [.n, .z] []
      [(0x3008, 0x123456789ABCD), (0x3007, 0x8ACF13579A000), (0x300A, 0x48D159)] = true := by
  decide

theorem test_st_d9 :
    ends 0x3F82938 (core 0x100 [] [(4, 0xFFFFFFFFFFFFF), (5, 0x3008)]
        [])
      0x102 [] []
      [(0x3000, 0xFFFFFFFFFFFFF), (0x2FFC, 0), (0x3004, 0)] = true := by
  decide

theorem test_st_d23_zero :
    ends 0x30000039 (core 0x100 [] []
        [(0x3000, 0xFFFFFFFFFFFFF)])
      0x103 [] []
      [(0x3000, 0)] = true := by
  decide

theorem test_st_d36 :
    ends 0xFFFFFFFFC293A (core 0x100 [.v] [(4, 0x123456789ABCD), (5, 0x3004)]
        [])
      0x104 [.v] []
      [(0x3000, 0x123456789ABCD), (0x3004, 0)] = true := by
  decide

theorem test_stb_one_byte :
    ends 0x2293C (core 0x100 [] [(4, 0x123456789ABCD), (5, 0x3000)]
        [])
      0x104 [] []
      [(0x3000, 0x2F34000000)] = true := by
  decide

theorem test_stb_truncates :
    ends 0x293C (core 0x100 [] [(4, 0x2000), (5, 0x3000)]
        [(0x3000, 0xFFFFFFFFFFFFF)])
      0x104 [] []
      [(0x3000, 0xFFFFFFFFFE000)] = true := by
  decide

theorem test_asl_register_count :
    ends 0x62906 (core 0x100 [] [(5, 0x8000000000001), (6, 0x41)]
        [])
      0x102 [.c] [(4, 2)]
      [] = true := by
  decide

theorem test_asl_0_keeps_c :
    ends 0x2002906 (core 0x100 [.c] [(5, 0x8000000000001)]
        [])
      0x102 [.c, .n] [(4, 0x8000000000001)]
      [] = true := by
  decide

theorem test_rol_register_count :
    ends 0x6290E (core 0x100 [] [(5, 0x8000000000001), (6, 0xFFFFFFFFFFFC1)]
        [])
      0x102 [.c] [(4, 2)]
      [] = true := by
  decide

theorem test_rol_2_through_c :
    ends 0x202290E (core 0x100 [.c] [(5, 0x8000000000001)]
        [])
      0x102 [] [(4, 7)]
      [] = true := by
  decide

theorem test_lsr_register_count_0 :
    ends 0x62916 (core 0x100 [] [(5, 0x8000000000001), (6, 0x40)]
        [])
      0x102 [.n] [(4, 0x8000000000001)]
      [] = true := by
  decide

theorem test_lsr_r0_discards :
    ends 0x2012816 (core 0x100 [] [(5, 3)]
        [])
      0x102 [.c] [(0, 0)]
      [] = true := by
  decide

theorem test_ror_1_through_c :
    ends 0x201291E (core 0x100 [.c] [(5, 0x8000000000001)]
        [])
      0x102 [.c, .n] [(4, 0xC000000000000)]
      [] = true := by
  decide

theorem test_ror_register_count :
    ends 0x6291E (core 0x100 [] [(5, 0x8000000000001), (6, 0x42)]
        [])
      0x102 [.n] [(4, 0xA000000000000)]
      [] = true := by
  decide

theorem test_jmp_abs :
    ends 0x48D159E26AC4 (core 0x1000 [] []
        [])
      0x123456789AB [] []
      [] = true := by
  decide

theorem test_jmp_reg :
    ends 0x1E4 (core 0x1000 [] [(7, 0xFEDCBA9876543)]
        [])
      0xFEDCBA9876543 [] []
      [] = true := by
  decide

theorem test_jsr_abs :
    ends 0x8000C (core 0x1000 [] [(0x1F, 0x8000)]
        [])
      0x2000 [] [(0x1F, 0x7FFC)]
      [(0x7FFC, 0x1004)] = true := by
  decide

theorem test_jsr_reg :
    ends 0x1EC (core 0x1000 [] [(7, 0x2000), (0x1F, 0x8000)]
        [])
      0x2000 [] [(0x1F, 0x7FFC)]
      [(0x7FFC, 0x1001)] = true := by
  decide

theorem test_jsr_sp :
    ends 0x7EC (core 0x1000 [] [(0x1F, 0x8000)]
        [])
      0x8000 [] [(0x1F, 0x7FFC)]
      [(0x7FFC, 0x1001)] = true := by
  decide

theorem test_rts :
    ends 0x14 (core 0x1000 [] [(0x1F, 0x7FFC)]
        [(0x7FFC, 0x1004)])
      0x1004 [] [(0x1F, 0x8000)]
      [] = true := by
  decide

theorem test_rti :
    ends 0x54 (core 0x1000 [.i, .b] [(0x1F, 0x7FF8)]
        [(0x7FF8, 0x63), (0x7FFC, 0x1234)])
      0x1234 [.c, .z, .n, .v] [(0x1F, 0x8000)]
      [] = true := by
  decide

theorem test_nop_unused_bits :
    ends 0x1FD4 (core 0x1000 [.c, .n] []
        [])
      0x1001 [.c, .n] []
      [] = true := by
  decide

theorem test_beq_taken :
    ends 0xA05 (core 0x1000 [.z] []
        [])
      0x1006 [.z] []
      [] = true := by
  decide

theorem test_beq_17_not_taken :
    ends 0x2580D (core 0x1000 [] []
        [])
      0x1002 [] []
      [] = true := by
  decide

theorem test_bne_taken :
    ends 0xA45 (core 0x1000 [] []
        [])
      0x1006 [] []
      [] = true := by
  decide

theorem test_bne_17_not_taken :
    ends 0x2584D (core 0x1000 [.z] []
        [])
      0x1002 [.z] []
      [] = true := by
  decide

theorem test_bpl_taken :
    ends 0xA85 (core 0x1000 [] []
        [])
      0x1006 [] []
      [] = true := by
  decide

theorem test_bpl_17_not_taken :
    ends 0x2588D (core 0x1000 [.n] []
        [])
      0x1002 [.n] []
      [] = true := by
  decide

theorem test_bmi_taken :
    ends 0xAC5 (core 0x1000 [.n] []
        [])
      0x1006 [.n] []
      [] = true := by
  decide

theorem test_bmi_17_not_taken :
    ends 0x258CD (core 0x1000 [] []
        [])
      0x1002 [] []
      [] = true := by
  decide

theorem test_bvs_taken :
    ends 0xB05 (core 0x1000 [.v] []
        [])
      0x1006 [.v] []
      [] = true := by
  decide

theorem test_bvs_17_not_taken :
    ends 0x2590D (core 0x1000 [] []
        [])
      0x1002 [] []
      [] = true := by
  decide

theorem test_bvc_taken :
    ends 0xB45 (core 0x1000 [] []
        [])
      0x1006 [] []
      [] = true := by
  decide

theorem test_bvc_17_not_taken :
    ends 0x2594D (core 0x1000 [.v] []
        [])
      0x1002 [.v] []
      [] = true := by
  decide

theorem test_bcs_taken :
    ends 0xB85 (core 0x1000 [.c] []
        [])
      0x1006 [.c] []
      [] = true := by
  decide

theorem test_bcs_17_not_taken :
    ends 0x2598D (core 0x1000 [] []
        [])
      0x1002 [] []
      [] = true := by
  decide

theorem test_bcc_taken :
    ends 0xBC5 (core 0x1000 [] []
        [])
      0x1006 [] []
      [] = true := by
  decide

theorem test_bcc_17_not_taken :
    ends 0x259CD (core 0x1000 [.c] []
        [])
      0x1002 [.c] []
      [] = true := by
  decide

theorem test_bne_17_lowest :
    ends 0x200004D (core 0x20000 [] []
        [])
      0x10002 [] []
      [] = true := by
  decide

theorem test_bcs_17_itself :
    ends 0x3FFFD8D (core 0x1000 [.c] []
        [])
      0x1000 [.c] []
      [] = true := by
  decide

theorem test_beq_wraps :
    ends 0x1805 (core 0 [.z] []
        [])
      0xFFFFFFFFFFFFD [.z] []
      [] = true := by
  decide

theorem test_bra_4 :
    ends 0x1415 (core 0x1000 [] []
        [])
      0xFFB [] []
      [] = true := by
  decide

theorem test_bra_17 :
    ends 0x3FDA81D (core 0x1000 [] []
        [])
      0xED6 [] []
      [] = true := by
  decide

theorem test_php_image :
    ends 0x3D (core 0x1000 [.c, .i, .b] [(0x1F, 0x8000)]
        [])
      0x1001 [.c, .i, .b] [(0x1F, 0x7FFC)]
      [(0x7FFC, 0x85)] = true := by
  decide

theorem test_php_wraps :
    ends 0x3D (core 0x1000 [.z] [(0x1F, 2)]
        [])
      0x1001 [.z] [(0x1F, 0xFFFFFFFFFFFFE)]
      [(0xFFFFFFFFFFFFE, 2)] = true := by
  decide

theorem test_psh_acc :
    ends 0x7E (core 0x1000 [] [(1, 0xFFFFFFFFFFFFE), (0x1F, 0x8000)]
        [])
      0x1001 [] [(0x1F, 0x7FFC)]
      [(0x7FFC, 0xFFFFFFFFFFFFE)] = true := by
  decide

theorem test_psh_sp :
    ends 0x7FE (core 0x1000 [] [(0x1F, 0x8000)]
        [])
      0x1001 [] [(0x1F, 0x7FFC)]
      [(0x7FFC, 0x7FFC)] = true := by
  decide

theorem test_plp :
    ends 0x35 (core 0x1000 [] [(0x1F, 0x7FFC)]
        [(0x7FFC, 0x63)])
      0x1001 [.c, .z, .n, .v] [(0x1F, 0x8000)]
      [] = true := by
  decide

theorem test_plp_clears :
    ends 0x35 (core 0x1000 [.c, .z, .i, .d, .v, .n, .u, .b] [(0x1F, 0x7FFC)]
        [(0x7FFC, 0xFFFFFFFFFFF00)])
      0x1001 [] [(0x1F, 0x8000)]
      [] = true := by
  decide

theorem test_pop_x :
    ends 0xB6 (core 0x1000 [] [(0x1F, 0x7FFC)]
        [(0x7FFC, 0xFFFFFFFFFFFFE)])
      0x1001 [.n] [(2, 0xFFFFFFFFFFFFE), (0x1F, 0x8000)]
      [] = true := by
  decide

theorem test_pop_sp :
    ends 0x7F6 (core 0x1000 [] [(0x1F, 0x7FFC)]
        [(0x7FFC, 0x4000)])
      0x1001 [] [(0x1F, 0x4000)]
      [] = true := by
  decide

theorem test_sep_7f :
    ends 0x1FE6 (core 0x1000 [] []
        [])
      0x1001 [.c, .z, .i, .u, .n, .v] []
      [] = true := by
  decide

theorem test_sep_21 :
    ends 0x866 (core 0x1000 [] []
        [])
      0x1001 [.c, .v] []
      [] = true := by
  decide

theorem test_rep_7f :
    ends 0x1FEE (core 0x1000 [.c, .z, .i, .d, .v, .n, .u, .b] []
        [])
      0x1001 [.d, .b] []
      [] = true := by
  decide

theorem test_rep_21 :
    ends 0x86E (core 0x1000 [.c, .z, .i, .d, .v, .n, .u, .b] []
        [])
      0x1001 [.z, .i, .d, .n, .u, .b] []
      [] = true := by
  decide

theorem test_mvn_repeats :
    ends 0x125 (core 0x100 [.c, .z] [(1, 2), (2, 0x4000), (3, 0x5000)]
        [(0x4000, 0x123456789ABCD), (0x4004, 7)])
      0x100 [.c, .z] [(1, 1), (2, 0x4004), (3, 0x5004)]
      [(0x5000, 0x123456789ABCD), (0x5004, 0)] = true := by
  decide

theorem test_mvn_count_0 :
    ends 0x125 (core 0x100 [] [(1, 0), (2, 0x4000), (3, 0x5000)]
        [(0x4000, 0x123456789ABCD)])
      0x100 [] [(1, 0xFFFFFFFFFFFFF), (2, 0x4004), (3, 0x5004)]
      [(0x5000, 0x123456789ABCD)] = true := by
  decide

theorem test_mvp_wraps :
    ends 0x165 (core 0x100 [] [(1, 1), (2, 0), (3, 0x5000)]
        [(0, 0x77)])
      0x101 [] [(1, 0), (2, 0xFFFFFFFFFFFFC), (3, 0x4FFC)]
      [(0x5000, 0x77)] = true := by
  decide

theorem test_sts :
    ends 0x1A5 (core 0x100 [.n] [(1, 3), (2, 0x1FFFF00000ABC), (3, 0x5000)]
        [])
      0x100 [.n] [(1, 2), (2, 0x1FFFF00000ABC), (3, 0x5004)]
      [(0x5000, 0x1FFFF00000ABC), (0x5004, 0)] = true := by
  decide

theorem test_cmps_count_1_keeps_flags :
    ends 0x1E5 (core 0x100 [.n] [(1, 1), (2, 0x4000), (3, 0x5000)]
        [(0x4000, 5), (0x5000, 6)])
      0x101 [.n] [(1, 0), (2, 0x4004), (3, 0x5004)]
      [] = true := by
  decide

theorem test_cmps_greater_unsigned :
    ends 0x1E5 (core 0x100 [.v] [(1, 9), (2, 0x4000), (3, 0x5000)]
        [(0x4000, 0x8000000000000), (0x5000, 1)])
      0x101 [.c, .v] [(1, 8), (2, 0x4004), (3, 0x5004)]
      [] = true := by
  decide

theorem test_mvnb :
    ends 0x25 (core 0x100 [] [(1, 2), (2, 0x4000), (3, 0x5000)]
        [(0x4000, 0x389ABCD), (0x5000, 0x44000000)])
      0x100 [] [(1, 1), (2, 0x4001), (3, 0x5001)]
      [(0x5000, 0x44000BCD)] = true := by
  decide

theorem test_mvpb :
    ends 0x65 (core 0x100 [] [(1, 2), (2, 0x4001), (3, 0x5001)]
        [(0x4000, 0x389ABCD)])
      0x100 [] [(1, 1), (2, 0x4000), (3, 0x5000)]
      [(0x5000, 0x389A000)] = true := by
  decide

theorem test_stsb :
    ends 0xA5 (core 0x100 [] [(1, 3), (2, 0x1FFFF00000ABC), (3, 0x5000)]
        [])
      0x100 [] [(1, 2), (2, 0x1FFFF00000ABC), (3, 0x5001)]
      [(0x5000, 0xABC)] = true := by
  decide

theorem test_cmpsb_n_of_sign_extended :
    ends 0xE5 (core 0x100 [] [(1, 5), (2, 0x4000), (3, 0x5000)]
        [(0x4000, 0x1000)])
      0x101 [.c, .n] [(1, 4), (2, 0x4001), (3, 0x5001)]
      [] = true := by
  decide

theorem test_cmpsb_less :
    ends 0xE5 (core 0x100 [.c] [(1, 5), (2, 0x4000), (3, 0x5000)]
        [(0x5000, 0x1000)])
      0x101 [] [(1, 4), (2, 0x4001), (3, 0x5001)]
      [] = true := by
  decide

theorem test_brk :
    ends 0xADC (core 0x200 [.c, .n] [(0x1F, 0x8000)]
        vectorWords)
      0x6000 [.c, .n, .i, .b] [(0x1F, 0x7FF8)]
      [(0x7FFC, 0x201), (0x7FF8, 0x41)] = true := by
  decide

theorem test_irq :
    ends 0x9C (core 0x200 [.c, .n] [(0x1F, 0x8000)]
        vectorWords)
      0x7200 [.c, .n, .i] [(0x1F, 0x7FF8)]
      [(0x7FFC, 0x201), (0x7FF8, 0x41)] = true := by
  decide

theorem test_nmi_clears_b :
    ends 0x5C (core 0x200 [.z, .i, .b] [(0x1F, 0x8000)]
        vectorWords)
      0x7100 [.z, .i] [(0x1F, 0x7FF8)]
      [(0x7FFC, 0x201), (0x7FF8, 0x86)] = true := by
  decide

theorem test_rst_pushes_nothing :
    ends 0x1C (core 0x200 [.c, .n] [(0x1F, 0x8000)]
        vectorWords)
      0x7000 [.c, .n, .i] [(0x1F, 0x8000)]
      [(0x7FFC, 0), (0x7FF8, 0)] = true := by
  decide

/-! ## Run state, stops, boundaries -/

theorem test_wai : goesTo (step ((core 0x1000 [.c] [] []).withFetchWord 13 0x0114)) (fun t =>
    shows t 0x1001 [.c] [] [] && decide (t.run = .waiting)) = true := by
  decide

theorem test_stp : goesTo (step ((core 0x1000 [.c] [] []).withFetchWord 13 0x0194)) (fun t =>
    shows t 0x1001 [.c] [] [] && decide (t.run = .stopped)) = true := by
  decide

theorem test_pfi_refuses : faultsWith (step ((core 0x1000 [] [] []).withFetchWord 13 0x0094)) .noMeaning = true := by
  decide

theorem test_pfi_as_nop :
    goesTo (step ({ core 0x1000 [.n] [] [] with cfg := { cfg with pfi := .nop } }.withFetchWord 13 0x0094))
      (fun t => shows t 0x1001 [.n] [] []) = true := by
  decide

theorem test_illegal_opcode : faultsWith (step ((core 0x1000 [] [] []).withFetchWord 13 0x0003)) .illegalOpcode = true := by
  decide

/-- A byte stored by the program is not fetched; the same byte placed by the environment is (`20_memory.md` R70). -/
theorem test_fetch_from_written :
    faultsWith (step ((core 0x1000 [] [] []).storeByte 0x1000 0x01D4)) .fetchFromWritten = true ∧
      goesTo (step (((core 0x1000 [] [] []).storeByte 0x1000 0x01D4).withFetchWord 13 0x01D4))
        (fun t => shows t 0x1001 [] [] []) = true := by
  decide

/-- `vec_brk` is the literal of the BRK list (`60_exceptions.md` R321). -/
theorem test_vec_brk : Config.default.vecBrk = 0xFFFFFFFFFFFC#52 := rfl

/-- A core at a boundary with some requests: the rows of `95_test_vectors.md` section 2.8. -/
def atBoundary (run : RunState) (set : List Flag) (rst nmi irq : Bool) : State :=
  { core 0x200 set [(31, 0x8000)] vectorWords with run := run, inputs := [⟨rst, nmi, irq⟩] }

theorem test_irq_accepted : goesTo (step (atBoundary .running [.c] false false true)) (fun t =>
    shows t 0x7200 [.c, .i] [(31, 0x7FF8)] [(0x7FFC, 0x200), (0x7FF8, 1)] && t.inputs == []) = true := by
  decide

theorem test_irq_masked : goesTo (step ((atBoundary .running [.c, .i] false false true).withFetchWord 13 0x01D4))
    (fun t => shows t 0x201 [.c, .i] [(31, 0x8000)] []) = true := by
  decide

theorem test_nmi_not_masked : goesTo (step (atBoundary .waiting [.i] false true true)) (fun t =>
    shows t 0x7100 [.i] [(31, 0x7FF8)] [(0x7FFC, 0x200), (0x7FF8, 4)] && decide (t.run = .running)) = true := by
  decide

theorem test_rst_first : goesTo (step (atBoundary .stopped [.v] true true true)) (fun t =>
    shows t 0x7000 [.v, .i] [(31, 0x8000)] [(0x7FFC, 0)] && decide (t.run = .running)) = true := by
  decide

theorem test_masked_irq_wakes : goesTo (step (atBoundary .waiting [.i] false false true)) (fun t =>
    shows t 0x200 [.i] [(31, 0x8000)] [] && decide (t.run = .running)) = true := by
  decide

theorem test_stopped_stays : goesTo (step (atBoundary .stopped [] false true true)) (fun t =>
    shows t 0x200 [] [(31, 0x8000)] [] && decide (t.run = .stopped)) = true := by
  decide

/-- A trap entry whose pushes wrap: BRK at the last byte with sp = 4. -/
theorem test_brk_wraps : ends 0x0ADC (core 0xFFFFFFFFFFFFF [.c] [(31, 4)] vectorWords) 0x6000 [.c, .i, .b]
    [(31, 0xFFFFFFFFFFFFC)] [(0, 0), (0xFFFFFFFFFFFFC, 1)] = true := by
  decide

/-- A reset that pushes starts the record afresh, and the bytes it pushes are in it (log entry 43). -/
theorem test_rst_pushes_are_recorded :
    goesTo (step { atBoundary .running [.c] true false false with
      cfg := { cfg with rstPushes := true }, written := [5] }) (fun t =>
        shows t 0x7000 [.c, .i] [(31, 0x7FF8)] [(0x7FFC, 0x200), (0x7FF8, 1)] &&
          t.written == [0x7FF8, 0x7FF9, 0x7FFA, 0x7FFB, 0x7FFC, 0x7FFD, 0x7FFE, 0x7FFF]) = true := by
  decide

/-! ## The micro-op engine -/

/-- A list of one line is first and last; its lines are read from a pointer to the next one marked last, and not
from the middle of a list (`49_microops.md` R292). -/
theorem test_micro_lists_by_fl_bits :
    markList [.sepI] = [⟨0b11#2, .sepI⟩] ∧
      microListAt [⟨0b01#2, .bne .pc⟩, ⟨0b10#2, .beq .pc⟩, ⟨0b11#2, .sepI⟩] 2 = some [.sepI] ∧
      microListAt [⟨0b01#2, .bne .pc⟩, ⟨0b10#2, .beq .pc⟩, ⟨0b11#2, .sepI⟩] 0 = some [.bne .pc, .beq .pc] ∧
      microListAt [⟨0b01#2, .bne .pc⟩, ⟨0b10#2, .beq .pc⟩, ⟨0b11#2, .sepI⟩] 1 = none := by
  decide

/-- The first nine bits of BRK, MVN and CMPS, whatever stands above them, and of NOP (`49_microops.md` R290). -/
theorem test_micro_dispatch :
    microDispatch 0x0ADC#52 = some brkList ∧ microDispatch 0x1F25#52 = some mvnList ∧
      microDispatch 0x01E5#52 = some cmpsList ∧ microDispatch 0x01D4#52 = none := by
  decide

/-- The engine inside `ADD R4,R5,R6`, with values to tell the operands apart. -/
def microState : MicroState :=
  { machine := core 0x200 [.c] [(1, 11), (2, 12), (3, 13), (4, 14), (5, 15), (6, 16), (31, 31)] []
    instruction := 0x0062900#52, tmp1 := 21, tmp2 := 22, zero := false }

/-- The values the three selectors give, 0 to 15 (`49_microops.md` R293 to R295). -/
theorem test_micro_selectors :
    (List.range 16).map (fun k => microState.storeData (BitVec.ofNat 4 k)) =
      [some 0, some 14, some 11, some 12, some 13, some 31, some 21, some 22, some 1, some 0x200, some 0x201,
        some 0x204, none, none, none, none] ∧
    (List.range 16).map (fun k => microState.source1 (BitVec.ofNat 4 k)) =
      [some 0, some 15, some 11, some 12, some 13, some 31, some 21, some 22, some 1, none, none, none, none, none,
        none, none] ∧
    (List.range 16).map (fun k => microState.source2 (BitVec.ofNat 4 k)) =
      [some 0, some 16, some 11, some 12, some 13, some 31, some 21, some 22, some 1, some 1, none, none, none, none,
        none, some (-1)] := by
  decide

/-- A result goes to the register of bits 10..6, to SR, or nowhere (`49_microops.md` R293). -/
theorem test_micro_targets :
    (microState.writeTarget 1#4 99).map (fun m => m.machine.readReg 4) = some 99 ∧
      (microState.writeTarget 8#4 2).map (fun m => m.machine.sr) = some (flags [.z]) ∧
      microState.writeTarget 0#4 99 = some microState ∧ microState.writeTarget 9#4 99 = none := by
  decide

/-! ## The other values of the parameters -/

/-- Big-endian data, a word access that is refused, a window that is not plain memory. -/
def strictCfg : Config :=
  { cfg with dataLittleEndian := false, misalignedOk := false, memMap := [⟨0x3010, 0x10⟩] }

theorem test_big_endian : goesTo (exec (.stD36 4 0 0x3000)
    { core 0x100 [] [(4, 0x123456789ABCD)] [] with cfg := strictCfg }) (fun t =>
      t.loadByte 0x3000 == 0x0246 && t.loadByte 0x3001 == 0x1159 && t.loadByte 0x3002 == 0x1C4D &&
        t.loadByte 0x3003 == 0x0BCD) = true := by
  decide

theorem test_misaligned_refused :
    refusesWith (exec (.ldD36 4 0 0x3002) { core 0x100 [] [] [] with cfg := strictCfg }) .misalignedWord = true := by
  decide

/-- The last byte of a word, the first of a window; the byte before the window. -/
theorem test_window_refused :
    refusesWith (exec (.ldb 4 0 0x3010) { core 0x100 [] [] [] with cfg := strictCfg }) .notPlainMemory = true ∧
      goesTo (exec (.ldb 4 0 0x300F) { core 0x100 [] [] [] with cfg := strictCfg }) (fun t => t.pc == 0x104) = true ∧
      goesTo (exec (.ldD36 4 0 0x3020) { core 0x100 [] [] [] with cfg := strictCfg }) (fun t => t.pc == 0x104) = true ∧
      refusesWith (exec (.ldD36 4 0 0x300E) { core 0x100 [] [] [] with cfg := strictCfg }) .notPlainMemory = true := by
  decide

/-- Zero-extended immediates, a carry that is a borrow, a rotate that leaves c out, a branch from its own address. -/
theorem test_other_parameters :
    goesTo (exec (.addI9 4 0 (-1)) { core 0x100 [] [] [] with cfg := { cfg with immExt := .zero } })
      (fun t => t.readReg 4 == 0x1FF) = true ∧
    goesTo (exec (.cmpI9 0 1) { core 0x100 [] [] [] with cfg := { cfg with subCarryIsNotBorrow := false } })
      (fun t => t.sr == flags [.c, .n]) = true ∧
    goesTo (exec (.rolI6 4 5 1)
      { core 0x100 [] [(5, 0x8000000000001)] [] with cfg := { cfg with rotateThroughCarry := false } })
      (fun t => t.readReg 4 == 3 && t.sr == flags [.c]) = true ∧
    goesTo (exec (.braD4 5) { core 0x100 [] [] [] with cfg := { cfg with branchBase := .branchItself } })
      (fun t => t.pc == 0x105) = true := by
  decide

/-! ## Witnesses: states and operands that meet the hypotheses of the statements, at the ends of their ranges -/

/-- A running core with a stack, a count, two blocks and the vectors in memory. -/
def plain : State :=
  core 0x200 [.c, .n] [(1, 2), (2, 0x4000), (3, 0x5000), (4, 0x123456789ABCD), (5, 0x3000), (31, 0x8000)] vectorWords

/-- `plain` with the stack pointer elsewhere. -/
def plainSp (sp : Word) : State :=
  plain.writeReg regSp sp

/-- `plain` under the strict configuration, R5 at an address. -/
def strict (base : Word) : State :=
  { plain.writeReg 5 base with cfg := strictCfg }

theorem witness_DecodeInvertsEncode :
    (Instr.subRR 31 0 31).wellFormed = true ∧ (Instr.andI36 1 31 (-1)).wellFormed = true := by
  decide

/-- A word with unused bits set, and the encoding it agrees with in every other bit. -/
theorem witness_DecodesExactlyTheEncodings :
    decodeWord false 0x3C12906#52 = .ok (.aslI6 4 5 1) ∧ (Instr.aslI6 4 5 1).wellFormed = true ∧
      ∀ k < 52, isUnusedBit (.aslI6 4 5 1) k = false →
        (0x3C12906#52).getLsbD k = (encodeWord false (.aslI6 4 5 1)).getLsbD k := by
  decide

theorem witness_LengthByOpcode :
    decode false [0x0900, 0x0031, 0x1FFF] = .ok (.addRR 4 5 6) ∧
      decode true [0x0AC4, 0x0F13, 0x1456, 0x0091] = .ok (.jmpAbs 0x123456789AB) ∧ decode false [0x1FD4] = .ok .nop := by
  decide

theorem witness_Bit25SelectsTheForm :
    ∀ x ∈ ([(0x0062900, .addRR 4 5 6), (0x3002900, .addI9 4 5 (-256)), (0x0062938, .stRR 4 5 6),
        (0x3F82938, .stD9 4 5 (-8)), (0x0062906, .aslRR 4 5 6), (0x23F2906, .aslI6 4 5 63), (0x235291E, .rorI6 4 5 53),
        (0x3FFFFF0101, .addI23 4 0 0x3FFFFF), (0x0030000039, .stD23 0 0 0x3000),
        (0x8000000000102, .addI36 4 0 0x800000000), (0x000000002293C, .stb 4 5 2)] : List (Word × Instr)),
      decodeWord false x.1 = .ok x.2 := by
  decide

theorem witness_TargetZeroSelectsCmpAndBit :
    ∀ x ∈ ([(0x0062808, .cmpRR 5 6), (0x0062848, .subRR 1 5 6), (0x3FF2818, .bitI9 5 (-1)),
        (0x3FF2918, .andI9 4 5 (-1))] : List (Word × Instr)),
      decodeWord false x.1 = .ok x.2 := by
  decide

/-- An unassigned opcode, an unassigned function code, and an assigned one. -/
theorem witness_UnassignedEncodingsFault :
    ∀ w ∈ [0x0003, 0x011C, 0x00DC],
      ∀ k < 4, (plain.withFetchWord 13 w).fetchStop ((plain.withFetchWord 13 w).pc + BitVec.ofNat 52 k) = none := by
  decide

/-- A four-byte instruction that runs over the top of the address space. -/
theorem witness_StepRunsDecodedInstruction :
    let s := ({ plain with pc := 0xFFFFFFFFFFFFE }).withFetchWord 52 0x048D159E26AC4
    s.boundary = .execute ∧ (∀ k < 4, s.fetchStop (s.pc + BitVec.ofNat 52 k) = none) ∧
      decode s.cfg.swapRolLsr (bytesFrom s.fetchMemory s.pc 4) = .ok (.jmpAbs 0x123456789AB) := by
  decide

/-- The last byte of a two-byte instruction stored to. -/
theorem witness_FetchFromWrittenFaults :
    let s := (plain.withFetchWord 26 0x0062900).storeByte 0x201 0x0031
    s.boundary = .execute ∧ s.cfg.unifiedMemory = true ∧
      (∀ j < 2, ByteAccessible s.cfg (s.pc + BitVec.ofNat 52 j)) ∧
      decode s.cfg.swapRolLsr (bytesFrom s.mem s.pc 2) = .ok (.addRR 4 5 6) ∧
      (s.pc + BitVec.ofNat 52 1).toNat ∈ s.written := by
  decide

/-- One boundary for each clause. -/
theorem witness_BoundaryPriority :
    (atBoundary .stopped [] true true true).requests.rst = true ∧
    ((atBoundary .stopped [] false true true).requests.rst = false ∧
      (atBoundary .stopped [] false true true).run = .stopped) ∧
    ((atBoundary .waiting [.i] false true true).run ≠ .stopped ∧
      (atBoundary .waiting [.i] false true true).requests.nmi = true) ∧
    ((atBoundary .running [] false false true).requests.nmi = false ∧
      (atBoundary .running [] false false true).requests.irq = true ∧ (atBoundary .running [] false false true).sr.i = false) ∧
    ((atBoundary .waiting [.i] false false true).run = .waiting ∧
      (atBoundary .waiting [.i] false false true).requests.irq = true ∧
      (atBoundary .waiting [.i] false false true).sr.i = true) ∧
    ((atBoundary .waiting [] false false false).run = .waiting ∧
      (atBoundary .waiting [] false false false).requests.nmi = false ∧
      (atBoundary .waiting [] false false false).requests.irq = false) ∧
    ∀ s ∈ [atBoundary .running [.i] false false true, atBoundary .running [] false false false],
      s.requests.rst = false ∧ s.run = .running ∧ s.requests.nmi = false ∧ (s.requests.irq = false ∨ s.sr.i = true) := by
  decide

theorem witness_SubSubtractsAndSetsFlags : (1 : RegNo) ≠ 0#5 ∧ (31 : RegNo) ≠ 0#5 := by decide
theorem witness_AndWritesTheConjunction : (1 : RegNo) ≠ 0#5 ∧ (31 : RegNo) ≠ 0#5 := by decide

/-- Words right below and right above the window, and at the top of memory; with no window, at any alignment. -/
theorem witness_LoadWordLoads :
    WordAccessible strictCfg ((strict 0x300C).indexedAddress 5 0) ∧
      WordAccessible strictCfg ((strict 0x300C).baseAddress 5 (0x14 : BitVec 9)) ∧
      WordAccessible strictCfg ((strict 0).baseAddress 5 (-4 : BitVec 23)) ∧
      WordAccessible cfg (plain.baseAddress 0 (-1 : BitVec 36)) := by
  decide

theorem witness_StoreWordStores :
    WordAccessible strictCfg ((strict 0x300C).indexedAddress 5 0) ∧
      WordAccessible strictCfg ((strict 0x300C).baseAddress 5 (0x14 : BitVec 9)) ∧
      WordAccessible strictCfg ((strict 0).baseAddress 5 (-4 : BitVec 23)) ∧
      WordAccessible cfg (plain.baseAddress 0 (-1 : BitVec 36)) := by
  decide

theorem witness_BytesLoadAndStore :
    ByteAccessible strictCfg ((strict 0x3000).baseAddress 5 (0xF : BitVec 36)) ∧
      ByteAccessible strictCfg ((strict 0x3000).baseAddress 5 (0x20 : BitVec 36)) := by
  decide

/-- The allowed accesses as a test over the two lists. -/
theorem accessesAllowed_iff_all (s : State) (i : Instr) :
    AccessesAllowed s i ↔
      ((wordsAccessed s i).all fun a => decide (WordAccessible s.cfg a)) = true ∧
        ((bytesAccessed s i).all fun a => decide (ByteAccessible s.cfg a)) = true := by
  simp only [AccessesAllowed, List.all_eq_true, decide_eq_true_eq]

/-- A misaligned word, words that reach into the window from either side, the window's ends: as data, as a stack
word, as a string element, as a vector. -/
theorem witness_DisallowedAccessesAreRefused :
    ∀ x ∈ ([(strict 0x3002, .ldRR 4 5 0), (strict 0x300D, .stRR 4 5 0), (strict 0x301F, .ldD9 4 5 0),
        (strict 0x3012, .stD23 4 5 (-2)), (strict 0x3010, .ldb 4 5 0), (strict 0x3011, .stb 4 5 0xE),
        ((strict 0).writeReg regSp 0x3014, .php), ((strict 0).writeReg regSp 0x300C, .rti),
        ((strict 0).writeReg regSp 0x3018, .brk 5), ((strict 0).writeReg regSp 0x3014, .jsrReg 5),
        ((strict 0).writeReg regY 0x3010, .mvn), ((strict 0).writeReg regX 0x301F, .cmpsb),
        ({ plain with cfg := { strictCfg with vecRst := 0x3010 } }, .rst)] : List (State × Instr)),
      ¬ AccessesAllowed x.1 x.2 := by
  simp only [List.forall_mem_cons, accessesAllowed_iff_all]
  decide

/-- The words and bytes next to the window, an instruction without access, and the default configuration. -/
theorem witness_DisallowedAccessesAreRefused_allowed :
    (∀ x ∈ ([(strict 0x300C, .ldRR 4 5 0), (strict 0x3020, .stRR 4 5 0), (strict 0x300F, .ldb 4 5 0),
        (strict 0x3020, .stb 4 5 0), ((strict 0).writeReg regSp 0x3010, .php), (strict 0, .pfi)] :
        List (State × Instr)),
      AccessesAllowed x.1 x.2) ∧
      plain.cfg.memMap = [] ∧ plain.cfg.misalignedOk = true := by
  simp only [List.forall_mem_cons, accessesAllowed_iff_all]
  decide

/-- A store of each form, and the displacements of its first and its last byte. -/
theorem witness_LoadAfterStoreReadsIt :
    (∃ t, exec (.stRR 4 5 0) plain = .next t ∧
        t.baseAddress 5 (3 : BitVec 36) = plain.indexedAddress 5 0 + BitVec.ofNat 52 3) ∧
      (∃ t, exec (.stD9 4 5 (-256)) plain = .next t ∧
        t.baseAddress 5 (-253 : BitVec 36) = plain.baseAddress 5 (-256 : BitVec 9) + BitVec.ofNat 52 3) ∧
      (∃ t, exec (.stD23 4 5 0) plain = .next t ∧
        t.baseAddress 0 (0x3000 : BitVec 36) = plain.baseAddress 5 (0 : BitVec 23) + BitVec.ofNat 52 0) ∧
      (∃ t, exec (.stD36 4 5 (-4)) plain = .next t ∧
        t.baseAddress 5 (-1 : BitVec 36) = plain.baseAddress 5 (-4 : BitVec 36) + BitVec.ofNat 52 3) ∧
      (6 : RegNo) ≠ 0#5 :=
  ⟨⟨_, rfl, by decide⟩, ⟨_, rfl, by decide⟩, ⟨_, rfl, by decide⟩, ⟨_, rfl, by decide⟩, by decide⟩

/-- The stack at the bottom of memory, where the push wraps. -/
theorem witness_CallsPushAndGo : WordAccessible (plainSp 0).cfg ((plainSp 0).readReg regSp - 4#52) := by decide

theorem witness_RtsPopsPc :
    WordAccessible (plainSp 0xFFFFFFFFFFFFE).cfg ((plainSp 0xFFFFFFFFFFFFE).readReg regSp) := by
  decide

theorem witness_CallThenReturn :
    (∃ t, exec (.jsrAbs 0x2000) plain = .next t ∧ t.cfg = t.cfg) ∧ ∃ t, exec (.jsrReg 31) plain = .next t ∧ t.cfg = t.cfg :=
  ⟨⟨_, rfl, rfl⟩, _, rfl, rfl⟩

theorem witness_RtiPopsSrThenPc :
    WordAccessible (plainSp 0xFFFFFFFFFFFFC).cfg ((plainSp 0xFFFFFFFFFFFFC).readReg regSp) ∧
      WordAccessible (plainSp 0xFFFFFFFFFFFFC).cfg ((plainSp 0xFFFFFFFFFFFFC).readReg regSp + 4#52) := by
  decide

theorem witness_PfiUnderItsTwoReadings :
    plain.cfg.pfi = .refuse ∧ ({ plain with cfg := { cfg with pfi := .nop } }).cfg.pfi = .nop := by
  decide

/-- A stack pointer of 4: the second push wraps. -/
theorem witness_TrapInstructionsEnterTheirHandler :
    WordAccessible (plainSp 4).cfg ((plainSp 4).readReg regSp - 4#52) ∧
      WordAccessible (plainSp 4).cfg ((plainSp 4).readReg regSp - 8#52) ∧
      ∀ kind ∈ [TrapKind.nmi, .irq, .brk], WordAccessible (plainSp 4).cfg (trapVector (plainSp 4).cfg kind) := by
  decide

/-- RST with nothing pushed, and with its two pushes. -/
theorem witness_RstRestartsAtItsVector :
    ∀ pushes : Bool, let s := { plainSp 4 with cfg := { cfg with rstPushes := pushes } }
      WordAccessible s.cfg s.cfg.vecRst ∧ WordAccessible s.cfg (s.readReg regSp - 4#52) ∧
        WordAccessible s.cfg (s.readReg regSp - 8#52) := by
  decide

/-- nmi in a waiting core with i set, irq in a running one with i clear; rst in every run state, with nothing pushed
and with its two pushes. -/
theorem witness_RequestsEnterTheirHandler :
    (∀ run ∈ [RunState.running, .waiting, .stopped], ∀ pushes : Bool,
      let s := { atBoundary run [.i, .b] true true true with cfg := { cfg with rstPushes := pushes } }
      s.requests.rst = true ∧ WordAccessible s.cfg s.cfg.vecRst ∧ WordAccessible s.cfg (s.readReg regSp - 4#52) ∧
        WordAccessible s.cfg (s.readReg regSp - 8#52)) ∧
    ∀ x ∈ [(atBoundary .waiting [.i] false true true, TrapKind.nmi), (atBoundary .running [] false false true, .irq)],
      x.1.run ≠ .stopped ∧ x.1.requests.rst = false ∧
        (x.2 = .nmi ∧ x.1.requests.nmi = true ∨
          x.2 = .irq ∧ x.1.requests.nmi = false ∧ x.1.requests.irq = true ∧ x.1.sr.i = false) ∧
        WordAccessible x.1.cfg (x.1.readReg regSp - 4#52) ∧ WordAccessible x.1.cfg (x.1.readReg regSp - 8#52) ∧
        WordAccessible x.1.cfg (trapVector x.1.cfg x.2) := by
  decide

theorem witness_RtiUndoesTrapEntry :
    plain.cfg.srPos.Injective ∧ trapPushes plain.cfg .brk = true ∧ ∃ t, takeTrap .brk 0x201 plain = .next t :=
  ⟨by decide, by decide, _, rfl⟩

theorem witness_PushesStoreBelowSp : WordAccessible (plainSp 2).cfg ((plainSp 2).readReg regSp - 4#52) := by decide

theorem witness_PopsRaiseSp :
    WordAccessible (plainSp 0xFFFFFFFFFFFFD).cfg ((plainSp 0xFFFFFFFFFFFFD).readReg regSp) ∧ (2 : RegNo) ≠ regSp := by
  decide

theorem witness_PhpThenPlpRestoresSr : plain.cfg.srPos.Injective ∧ ∃ t, exec .php plain = .next t :=
  ⟨by decide, _, rfl⟩

/-- Mask bit 0 of the default layout is c; d has an image bit and no effect. -/
theorem witness_RepAndSepWriteTheMaskedFlags :
    plain.cfg.maskSel = .bySrPos ∧ (0x7F : BitVec 7).toNat.testBit (plain.cfg.srPos.of .c).val = true := by
  decide

theorem witness_MovesOneElement :
    WordAccessible plain.cfg (plain.readReg regX) ∧ WordAccessible plain.cfg (plain.readReg regY) ∧
      ByteAccessible plain.cfg (plain.readReg regX) ∧ ByteAccessible plain.cfg (plain.readReg regY) := by
  decide

theorem witness_FillsOneElement :
    WordAccessible plain.cfg (plain.readReg regY) ∧ ByteAccessible plain.cfg (plain.readReg regY) := by
  decide

theorem witness_ComparesOneElement :
    WordAccessible plain.cfg (plain.readReg regX) ∧ WordAccessible plain.cfg (plain.readReg regY) ∧
      ByteAccessible plain.cfg (plain.readReg regX) ∧ ByteAccessible plain.cfg (plain.readReg regY) := by
  decide

/-- With no window and any alignment allowed, every word is accessible. -/
theorem wordAccessible_of_open {c : Config} (hw : c.memMap = []) (ha : c.misalignedOk = true) (a : Word) :
    WordAccessible c a :=
  ⟨by simp [ByteAccessible, hw], .inl ha⟩

/-- A fill of two words, and one of the whole address space. -/
theorem witness_StsFillsTheBlock :
    ∀ n ∈ [2, 2 ^ 50], let s := plain.writeReg regAcc (BitVec.ofNat 52 n)
      0 < n ∧ 4 * n ≤ 2 ^ 52 ∧ (s.readReg regAcc).toNat = n ∧
        ∀ k < n, WordAccessible s.cfg (s.readReg regY + BitVec.ofNat 52 (4 * k)) := by
  intro n hn
  simp only [List.mem_cons, List.not_mem_nil, or_false] at hn
  rcases hn with rfl | rfl <;>
    exact ⟨by decide, by decide, by decide, fun k _ => wordAccessible_of_open (by decide) (by decide) _⟩

/-- Two words moved down by one word, and two words whose destination begins where the source ends. -/
theorem witness_MvnCopiesTheBlock :
    ∀ y ∈ ([0x3FFC, 0x4008] : List Word), let s := plain.writeReg regY y
      (s.readReg regX - s.readReg regY).toNat + 4 * 2 ≤ 2 ^ 52 ∧ (s.readReg regAcc).toNat = 2 ∧
        ∀ k < 2, WordAccessible s.cfg (s.readReg regX + BitVec.ofNat 52 (4 * k)) ∧
          WordAccessible s.cfg (s.readReg regY + BitVec.ofNat 52 (4 * k)) := by
  intro y hy
  simp only [List.mem_cons, List.not_mem_nil, or_false] at hy
  rcases hy with rfl | rfl <;>
    exact ⟨by decide, by decide, fun k _ => ⟨wordAccessible_of_open (by decide) (by decide) _,
      wordAccessible_of_open (by decide) (by decide) _⟩⟩

theorem witness_CmpsOfEqualStrings :
    (plain.readReg regAcc).toNat = 1 + 1 ∧ plain.cfg.stringFlagsFromCount = false ∧
      (∀ k ≤ 1, WordAccessible plain.cfg (plain.readReg regX + BitVec.ofNat 52 (4 * k)) ∧
        WordAccessible plain.cfg (plain.readReg regY + BitVec.ofNat 52 (4 * k))) ∧
      ∀ k < 1, memWord plain (plain.readReg regX + BitVec.ofNat 52 (4 * k)) =
        memWord plain (plain.readReg regY + BitVec.ofNat 52 (4 * k)) := by
  decide

/-- The four word string instructions, one with its unused bits set, and two that have no list. -/
theorem witness_StringListsAreTheInstructions :
    ∀ x ∈ ([(0x0125, .mvn), (0x0165, .mvp), (0x01A5, .sts), (0x01E5, .cmps), (0x1F25, .mvn), (0x0025, .mvnb),
        (0x01D4, .nop)] : List (Word × Instr)),
      decodeWord false x.1 = .ok x.2 := by
  decide

theorem witness_BrkListIsBrkButForB :
    decodeWord false 0x0ADC#52 = .ok (.brk 5) ∧ plain.cfg.vecBrk = 0xFFFFFFFFFFFC#52 ∧ plain.run = .running := by
  decide

/-- A step that stores: BRK, from a state that meets the invariant. -/
theorem witness_StepKeepsInvariant :
    (plain.withFetchWord 13 0x0ADC).Inv ∧ ∃ t, step (plain.withFetchWord 13 0x0ADC) = .next t :=
  ⟨⟨by decide, by decide, by decide, by decide, by decide⟩, _, rfl⟩

theorem witness_StepKeepsConfigurationAndCode : ∃ t, step (atBoundary .running [] false false true) = .next t :=
  ⟨_, rfl⟩

theorem witness_OnlyTheListedFlagsAndRegistersChange : ∃ t, exec (.pop 2) plain = .next t :=
  ⟨_, rfl⟩

/-- The byte right behind a store's span and the byte right below it lie outside the span. -/
theorem witness_OnlyTheStoredBytesChange :
    (∃ t, exec (.stb 4 5 0) plain = .next t) ∧ storeSpan plain (.stb 4 5 0) = some (0x3000, 1) ∧
      1 ≤ ((0x3001 : Word) - 0x3000).toNat ∧ 1 ≤ ((0x2FFF : Word) - 0x3000).toNat :=
  ⟨⟨_, rfl⟩, by decide, by decide, by decide⟩

theorem witness_OtherInstructionsAdvancePc :
    transfersControl (.ldb 4 5 0) = false ∧ ∃ t, exec (.ldb 4 5 0) plain = .next t :=
  ⟨by decide, _, rfl⟩

/-- WAI and STP from a running core; reset in a stopped one. -/
theorem witness_RunStateChanges :
    (∃ t, exec .wai plain = .next t ∧ plain.run = .running ∧ t.run ≠ .running) ∧
      (∃ t, exec .stp plain = .next t ∧ plain.run = .running ∧ t.run ≠ .running) ∧
      ∃ t, step (atBoundary .stopped [] true false false) = .next t ∧
        (atBoundary .stopped [] true false false).run = .stopped ∧ t.run ≠ .stopped :=
  ⟨⟨_, rfl, by decide, by decide⟩, ⟨_, rfl, by decide, by decide⟩, _, rfl, by decide, by decide⟩

/-- A store that changes a byte, and resets that empty the record: by the input, and by the instruction. -/
theorem witness_ChangedBytesAreRecorded :
    (∃ t, step (plain.withFetchWord 52 0x000000002293C) = .next t ∧
        byteAt t.mem 0x3002 ≠ byteAt (plain.withFetchWord 52 0x000000002293C).mem 0x3002) ∧
      (∃ t, step { atBoundary .running [] true false false with written := [5] } = .next t ∧ t.written = [] ∧
        (atBoundary .running [] true false false).boundary = .trap .rst) ∧
      ∃ t, step ({ plain with written := [5] }.withFetchWord 13 0x001C) = .next t ∧ t.written = [] :=
  ⟨⟨_, rfl, by decide⟩, ⟨_, rfl, by decide, by decide⟩, _, rfl, by decide⟩

end Sys2Proof.Tests
end

