-- ==== Sys2Proof/Proofs/RegisterZero.lean ====
section
/-! PROOFS. R0 (`10_state.md` R21): each operation with a target register ends in one write to that target, so
that with target R0, where the write is discarded, everything else it does is left. -/

namespace Sys2Proof.Machine

/-- The target of an operation matters to the register written last and to nothing else: with target R0 it goes
to a state, and with target `rt` to that state with `rt` written, or both are refused alike (`10_state.md` R21). -/
def OnlyWritesTarget (op : RegNo → Result) (rt : RegNo) : Prop :=
  (∃ t v, op 0#5 = .next t ∧ op rt = .next (t.writeReg rt v)) ∨ ∃ r, op 0#5 = .refused r ∧ op rt = .refused r

/-! ## The two shapes every such operation is made of -/

/-- pc is no register, so that it may go on before or after the write. -/
theorem State.advance_writeReg (s : State) (r : RegNo) (v : Word) (len : Nat) :
    (s.writeReg r v).advance len = (s.advance len).writeReg r v := by
  unfold State.writeReg
  split <;> rfl

/-- Writing the target and going on; the rest of the state is `u`, which knows no target. -/
theorem onlyWritesTarget_write (u : State) (rt : RegNo) (v : Word) (len : Nat) :
    OnlyWritesTarget (fun r => .next ((u.writeReg r v).advance len)) rt :=
  .inl ⟨u.advance len, v, by simp only [State.writeReg_zero], by simp only [State.advance_writeReg]⟩

/-- An access that does not depend on the target refuses with both targets or with none. -/
theorem OnlyWritesTarget.unlessRefused {op : RegNo → Result} {rt : RegNo} (h : OnlyWritesTarget op rt)
    (refusal : Option Refusal) : OnlyWritesTarget (fun r => unlessRefused refusal (op r)) rt := by
  cases refusal with
  | none => exact h
  | some reason => exact .inr ⟨reason, rfl, rfl⟩

/-! ## The shared meanings with a target -/

theorem addInto_onlyWritesTarget (s : State) (rt : RegNo) (a b : Word) (len : Nat) :
    OnlyWritesTarget (fun r => addInto r a b len s) rt :=
  onlyWritesTarget_write (s.setSR (s.sr.afterAdd a b)) rt (a + b) len

theorem logicInto_onlyWritesTarget (s : State) (rt : RegNo) (result : Word) (len : Nat) :
    OnlyWritesTarget (fun r => logicInto r result len s) rt :=
  onlyWritesTarget_write (s.setSR (s.sr.setNZ result)) rt result len

theorem shiftInto_onlyWritesTarget (s : State) (rt : RegNo) (f : Shifted → Shifted) (a : Word) (k : Nat) :
    OnlyWritesTarget (fun r => shiftInto r f a k s) rt :=
  onlyWritesTarget_write _ rt _ 2

theorem loadInto_onlyWritesTarget (s : State) (rt : RegNo) (ea : Word) (len : Nat) :
    OnlyWritesTarget (fun r => loadInto r ea len s) rt :=
  (onlyWritesTarget_write (s.setSR (s.sr.setNZ (s.loadWord ea))) rt (s.loadWord ea) len).unlessRefused
    (wordRefusal s.cfg ea)

theorem execLdb_onlyWritesTarget (s : State) (rt ra : RegNo) (disp : BitVec 36) :
    OnlyWritesTarget (fun r => execLdb r ra disp s) rt :=
  (onlyWritesTarget_write _ rt _ 4).unlessRefused (byteRefusal s.cfg (s.baseAddress ra disp))

/-- POP raises sp before it writes its target, so that sp has risen with target R0 too (`44_stack.md` R234). -/
theorem execPop_onlyWritesTarget (s : State) (rt : RegNo) : OnlyWritesTarget (fun r => execPop r s) rt :=
  (onlyWritesTarget_write (s.setSR (s.sr.setNZ (s.loadWord s.sp))).dropWord rt (s.loadWord s.sp) 1).unlessRefused
    (wordRefusal s.cfg s.sp)

/-! ## The instructions -/

/-- Settles O11: each of the 26 forms is one of six operations, and each of these only writes its target. -/
theorem registerZeroIsHardwired : Obligations.RegisterZeroIsHardwired := by
  unfold Obligations.RegisterZeroIsHardwired
  refine ⟨State.readReg_zero, fun s rt ra rb i9 i23 i36 i6 => ?_⟩
  have add := addInto_onlyWritesTarget s rt
  have logic := logicInto_onlyWritesTarget s rt
  have load := loadInto_onlyWritesTarget s rt
  have shift := shiftInto_onlyWritesTarget s rt
  simp only [List.forall_mem_cons]
  exact ⟨add _ _ _, add _ _ _, add _ _ _, add _ _ _,
    logic _ _, logic _ _, logic _ _, logic _ _,
    logic _ _, logic _ _, logic _ _, logic _ _,
    load _ _, load _ _, load _ _, load _ _,
    execLdb_onlyWritesTarget s rt ra i36,
    shift _ _ _, shift _ _ _, shift _ _ _, shift _ _ _,
    shift _ _ _, shift _ _ _, shift _ _ _, shift _ _ _,
    execPop_onlyWritesTarget s rt, by simp⟩

end Sys2Proof.Machine
end

