-- ==== Sys2Proof/Proofs/OperandForm.lean ====
section
/-! PROOFS. Where a decoded instruction takes its last operand from (`30_encoding.md` R94): the opcode says whether
bit 25 has a say, and the target field, which tells CMP from SUB and BIT from AND (R95), never has one. -/

namespace Sys2Proof.Machine

/-! ## Choices between two instructions -/

/-- A choice between instructions of different forms is a choice between their operands: bit 25. -/
theorem operandForm_ite {c : Prop} [Decidable c] {i j : Instr} {f g : OperandForm} (hi : operandForm i = some f)
    (hj : operandForm j = some g) : operandForm (if c then i else j) = some (if c then f else g) := by
  rw [apply_ite operandForm, hi, hj, apply_ite some]

/-- A choice between instructions with the same operand leaves no choice of the operand: the target field, and the
assignment of the opcodes of ROL and LSR. -/
theorem operandForm_ite_same {c : Prop} [Decidable c] {i j : Instr} {f : OperandForm} (hi : operandForm i = some f)
    (hj : operandForm j = some f) : operandForm (if c then i else j) = some f := by
  rw [operandForm_ite hi hj, ite_self]

/-! ## The shifts -/

/-- The last operand of a shift by bit 25 (`30_encoding.md` R94, R87). -/
def shiftOperand (w : Word) : OperandForm :=
  if w.getLsbD 25 then .count6 (field w 16 6) else .register (field w 16 5)

theorem operandForm_decodeAsl (w : Word) : operandForm (decodeAsl w) = some (shiftOperand w) :=
  operandForm_ite rfl rfl

theorem operandForm_decodeRol (w : Word) : operandForm (decodeRol w) = some (shiftOperand w) :=
  operandForm_ite rfl rfl

theorem operandForm_decodeLsr (w : Word) : operandForm (decodeLsr w) = some (shiftOperand w) :=
  operandForm_ite rfl rfl

theorem operandForm_decodeRor (w : Word) : operandForm (decodeRor w) = some (shiftOperand w) :=
  operandForm_ite rfl rfl

/-! ## The operand by opcode -/

section
variable {swap : Bool} {w : Word} {i : Instr}

/-- Whichever of ROL and LSR an opcode stands for (`42_shift.md` R162), the operand is the same. -/
theorem operandForm_of_shift_opcode (h : decodeWord swap w = .ok i)
    (hop : (field w 0 6).toNat ∈ [0o06, 0o16, 0o26, 0o36]) : operandForm i = some (shiftOperand w) := by
  simp only [List.mem_cons, List.not_mem_nil, or_false] at hop
  rcases hop with hop | hop | hop | hop <;> simp only [decodeWord, hop, Except.ok.injEq] at h <;> subst h
  · exact operandForm_decodeAsl w
  · exact operandForm_ite_same (operandForm_decodeLsr w) (operandForm_decodeRol w)
  · exact operandForm_ite_same (operandForm_decodeRol w) (operandForm_decodeLsr w)
  · exact operandForm_decodeRor w

/-- Bit 25 selects the form; under 10o and 30o it does so for each of the two instructions alike. -/
theorem operandForm_of_two_byte_opcode (h : decodeWord swap w = .ok i)
    (hop : (field w 0 6).toNat ∈ [0o00, 0o10, 0o30, 0o40, 0o50, 0o60, 0o70]) :
    operandForm i = some (if w.getLsbD 25 then .imm9 (field w 16 9) else .register (field w 16 5)) := by
  simp only [List.mem_cons, List.not_mem_nil, or_false] at hop
  rcases hop with hop | hop | hop | hop | hop | hop | hop <;>
    simp only [decodeWord, hop, Except.ok.injEq] at h <;> subst h
  case inr.inl | inr.inr.inl => -- CMP or SUB, BIT or AND
    exact operandForm_ite (operandForm_ite_same rfl rfl) (operandForm_ite_same rfl rfl)
  all_goals exact operandForm_ite rfl rfl

theorem operandForm_of_three_byte_opcode (h : decodeWord swap w = .ok i)
    (hop : (field w 0 6).toNat ∈ [0o01, 0o11, 0o31, 0o41, 0o51, 0o61, 0o71]) :
    operandForm i = some (.imm23 (field w 16 23)) := by
  simp only [List.mem_cons, List.not_mem_nil, or_false] at hop
  rcases hop with hop | hop | hop | hop | hop | hop | hop <;>
    simp only [decodeWord, hop, Except.ok.injEq] at h <;> subst h
  case inr.inl | inr.inr.inl => exact operandForm_ite_same rfl rfl -- CMP or SUB, BIT or AND
  all_goals rfl

theorem operandForm_of_four_byte_opcode (h : decodeWord swap w = .ok i)
    (hop : (field w 0 6).toNat ∈ [0o02, 0o12, 0o32, 0o42, 0o52, 0o62, 0o72, 0o64, 0o74]) :
    operandForm i = some (.imm36 (field w 16 36)) := by
  simp only [List.mem_cons, List.not_mem_nil, or_false] at hop
  rcases hop with hop | hop | hop | hop | hop | hop | hop | hop | hop <;>
    simp only [decodeWord, hop, Except.ok.injEq] at h <;> subst h
  case inr.inl | inr.inr.inl => exact operandForm_ite_same rfl rfl -- CMP or SUB, BIT or AND
  all_goals rfl

end

/-- Settles O4, by the four groups of opcodes. -/
theorem bit25SelectsTheForm : Obligations.Bit25SelectsTheForm := by
  unfold Obligations.Bit25SelectsTheForm
  exact fun _ _ _ h => ⟨operandForm_of_two_byte_opcode h, operandForm_of_shift_opcode h,
    operandForm_of_three_byte_opcode h, operandForm_of_four_byte_opcode h⟩

end Sys2Proof.Machine
end

section
/-! PROOFS. Encoding (`30_encoding.md`): the fields each format uses, where the encoder puts them, and the decoder
read backwards: what a word that decodes to an instruction must hold. -/

namespace Sys2Proof

open Machine

/-! ## Fields -/

theorem field_eq_field_iff {w v : Word} {lo len : Nat} :
    field w lo len = field v lo len ↔ ∀ k, lo ≤ k ∧ k < lo + len → w.getLsbD k = v.getLsbD k := by
  constructor
  · rintro h k ⟨hlo, hhi⟩
    have hbit := congrArg (fun f => f.getLsbD (k - lo)) h
    simpa only [getLsbD_field, show k - lo < len by omega, decide_true, Bool.true_and, Nat.add_sub_cancel' hlo]
      using hbit
  · intro h
    apply BitVec.eq_of_getLsbD_eq
    intro k hk
    simp only [getLsbD_field, h (lo + k) ⟨by omega, by omega⟩]

theorem bit_eq_one (w : Word) (k : Nat) : field w k 1 = 1#1 ↔ w.getLsbD k = true := by
  simp [BitVec.eq_of_getLsbD_eq_iff, getLsbD_field]

theorem bit_eq_zero (w : Word) (k : Nat) : field w k 1 = 0#1 ↔ w.getLsbD k = false := by
  simp [BitVec.eq_of_getLsbD_eq_iff, getLsbD_field]

/-- The fields of an instruction word that decoding looks at, as lowest bit and width (`30_encoding.md` R83 to R92,
R99): all but the unused bits. -/
def usedFields : Instr → List (Nat × Nat)
  | .addRR _ _ _ | .cmpRR _ _ | .subRR _ _ _ | .bitRR _ _ | .andRR _ _ _ | .orRR _ _ _ | .eorRR _ _ _ | .ldRR _ _ _
  | .stRR _ _ _ | .aslRR _ _ _ | .rolRR _ _ _ | .lsrRR _ _ _ | .rorRR _ _ _ => [(0, 6), (6, 5), (11, 5), (16, 5), (25, 1)]
  | .addI9 _ _ _ | .cmpI9 _ _ | .subI9 _ _ _ | .bitI9 _ _ | .andI9 _ _ _ | .orI9 _ _ _ | .eorI9 _ _ _ | .ldD9 _ _ _
  | .stD9 _ _ _ => [(0, 6), (6, 5), (11, 5), (16, 9), (25, 1)]
  | .addI23 _ _ _ | .cmpI23 _ _ | .subI23 _ _ _ | .bitI23 _ _ | .andI23 _ _ _ | .orI23 _ _ _ | .eorI23 _ _ _
  | .ldD23 _ _ _ | .stD23 _ _ _ => [(0, 6), (6, 5), (11, 5), (16, 23)]
  | .addI36 _ _ _ | .cmpI36 _ _ | .subI36 _ _ _ | .bitI36 _ _ | .andI36 _ _ _ | .orI36 _ _ _ | .eorI36 _ _ _
  | .ldD36 _ _ _ | .ldb _ _ _ | .stD36 _ _ _ | .stb _ _ _ => [(0, 6), (6, 5), (11, 5), (16, 36)]
  | .aslI6 _ _ _ | .rolI6 _ _ _ | .lsrI6 _ _ _ | .rorI6 _ _ _ => [(0, 6), (6, 5), (11, 5), (16, 6), (25, 1)]
  | .jmpAbs _ | .jsrAbs _ => [(0, 6), (6, 46)]
  | .jmpReg _ | .jsrReg _ | .psh _ | .pop _ => [(0, 6), (6, 5)]
  | .rts | .rti | .pfi | .wai | .stp | .nop | .rst | .nmi | .irq | .mvnb | .mvpb | .stsb | .cmpsb | .mvn | .mvp
  | .sts | .cmps => [(0, 6), (6, 3)]
  | .beqD4 _ | .bneD4 _ | .bplD4 _ | .bmiD4 _ | .bvsD4 _ | .bvcD4 _ | .bcsD4 _ | .bccD4 _ | .braD4 _
  | .brk _ => [(0, 6), (6, 3), (9, 4)]
  | .beqD17 _ | .bneD17 _ | .bplD17 _ | .bmiD17 _ | .bvsD17 _ | .bvcD17 _ | .bcsD17 _ | .bccD17 _
  | .braD17 _ => [(0, 6), (6, 3), (9, 17)]
  | .sep _ | .rep _ => [(0, 6), (6, 7)]
  | .php | .plp => [(0, 6)]

theorem isUnusedBit_eq_false_iff (i : Instr) {k : Nat} (hk : k < 52) :
    isUnusedBit i k = false ↔ ∃ r ∈ usedFields i, r.1 ≤ k ∧ k < r.1 + r.2 := by
  unfold isUnusedBit
  rw [Bool.or_eq_false_iff, decide_eq_false_iff_not]
  cases i <;> simp [usedFields, Instr.length] <;> omega

/-- The word holds the encoding of an instruction in every field of its format. -/
def Spells (swap : Bool) (w : Word) (i : Instr) : Prop :=
  ∀ r ∈ usedFields i, field w r.1 r.2 = field (encodeWord swap i) r.1 r.2

theorem spells_iff (swap : Bool) (w : Word) (i : Instr) :
    Spells swap w i ↔ ∀ k < 52, isUnusedBit i k = false → w.getLsbD k = (encodeWord swap i).getLsbD k := by
  constructor
  · intro h k hk hused
    obtain ⟨r, hr, hin⟩ := (isUnusedBit_eq_false_iff i hk).1 hused
    exact field_eq_field_iff.1 (h r hr) k hin
  · intro h r hr
    refine field_eq_field_iff.2 fun k hin => ?_
    by_cases hk : k < 52
    · exact h k hk ((isUnusedBit_eq_false_iff i hk).2 ⟨r, hr, hin⟩)
    · rw [BitVec.getLsbD_of_ge _ _ (by omega), BitVec.getLsbD_of_ge _ _ (by omega)]

/-! ## Where the encoder puts the fields -/

@[simp] theorem field_encodeRR (op : BitVec 6) (rt ra rb : RegNo) :
    field (encodeRR op rt ra rb) 0 6 = op ∧ field (encodeRR op rt ra rb) 6 5 = rt ∧
      field (encodeRR op rt ra rb) 11 5 = ra ∧ field (encodeRR op rt ra rb) 16 5 = rb ∧
      field (encodeRR op rt ra rb) 25 1 = 0#1 := by
  refine ⟨?_, ?_, ?_, ?_, ?_⟩ <;> apply BitVec.eq_of_getLsbD_eq <;> intro k hk <;>
    simp only [field, encodeRR, BitVec.getLsbD_append, BitVec.getLsbD_extractLsb'] <;> grind

@[simp] theorem field_encodeRI9 (op : BitVec 6) (rt ra : RegNo) (imm : BitVec 9) :
    field (encodeRI9 op rt ra imm) 0 6 = op ∧ field (encodeRI9 op rt ra imm) 6 5 = rt ∧
      field (encodeRI9 op rt ra imm) 11 5 = ra ∧ field (encodeRI9 op rt ra imm) 16 9 = imm ∧
      field (encodeRI9 op rt ra imm) 25 1 = 1#1 := by
  refine ⟨?_, ?_, ?_, ?_, ?_⟩ <;> apply BitVec.eq_of_getLsbD_eq <;> intro k hk <;>
    simp only [field, encodeRI9, BitVec.getLsbD_append, BitVec.getLsbD_extractLsb'] <;> grind

@[simp] theorem field_encodeRI23 (op : BitVec 6) (rt ra : RegNo) (imm : BitVec 23) :
    field (encodeRI23 op rt ra imm) 0 6 = op ∧ field (encodeRI23 op rt ra imm) 6 5 = rt ∧
      field (encodeRI23 op rt ra imm) 11 5 = ra ∧ field (encodeRI23 op rt ra imm) 16 23 = imm := by
  refine ⟨?_, ?_, ?_, ?_⟩ <;> apply BitVec.eq_of_getLsbD_eq <;> intro k hk <;>
    simp only [field, encodeRI23, BitVec.getLsbD_append, BitVec.getLsbD_extractLsb'] <;> grind

@[simp] theorem field_encodeRI36 (op : BitVec 6) (rt ra : RegNo) (imm : BitVec 36) :
    field (encodeRI36 op rt ra imm) 0 6 = op ∧ field (encodeRI36 op rt ra imm) 6 5 = rt ∧
      field (encodeRI36 op rt ra imm) 11 5 = ra ∧ field (encodeRI36 op rt ra imm) 16 36 = imm := by
  refine ⟨?_, ?_, ?_, ?_⟩ <;> apply BitVec.eq_of_getLsbD_eq <;> intro k hk <;>
    simp only [field, encodeRI36, BitVec.getLsbD_append, BitVec.getLsbD_extractLsb'] <;> grind

@[simp] theorem field_encodeSHI (op : BitVec 6) (rt ra : RegNo) (count : BitVec 6) :
    field (encodeSHI op rt ra count) 0 6 = op ∧ field (encodeSHI op rt ra count) 6 5 = rt ∧
      field (encodeSHI op rt ra count) 11 5 = ra ∧ field (encodeSHI op rt ra count) 16 6 = count ∧
      field (encodeSHI op rt ra count) 25 1 = 1#1 := by
  refine ⟨?_, ?_, ?_, ?_, ?_⟩ <;> apply BitVec.eq_of_getLsbD_eq <;> intro k hk <;>
    simp only [field, encodeSHI, BitVec.getLsbD_append, BitVec.getLsbD_extractLsb'] <;> grind

@[simp] theorem field_encodeJ46 (op : BitVec 6) (addr : BitVec 46) :
    field (encodeJ46 op addr) 0 6 = op ∧ field (encodeJ46 op addr) 6 46 = addr := by
  refine ⟨?_, ?_⟩ <;> apply BitVec.eq_of_getLsbD_eq <;> intro k hk <;>
    simp only [field, encodeJ46, BitVec.getLsbD_append, BitVec.getLsbD_extractLsb'] <;> grind

@[simp] theorem field_encodeR1 (op : BitVec 6) (r : RegNo) :
    field (encodeR1 op r) 0 6 = op ∧ field (encodeR1 op r) 6 5 = r := by
  refine ⟨?_, ?_⟩ <;> apply BitVec.eq_of_getLsbD_eq <;> intro k hk <;>
    simp only [field, encodeR1, BitVec.getLsbD_append, BitVec.getLsbD_extractLsb'] <;> grind

@[simp] theorem field_encodeF3 (op : BitVec 6) (fn : BitVec 3) (high : BitVec 4) :
    field (encodeF3 op fn high) 0 6 = op ∧ field (encodeF3 op fn high) 6 3 = fn ∧
      field (encodeF3 op fn high) 9 4 = high := by
  refine ⟨?_, ?_, ?_⟩ <;> apply BitVec.eq_of_getLsbD_eq <;> intro k hk <;>
    simp only [field, encodeF3, BitVec.getLsbD_append, BitVec.getLsbD_extractLsb'] <;> grind

@[simp] theorem field_encodeB17 (op : BitVec 6) (cond : BitVec 3) (disp : BitVec 17) :
    field (encodeB17 op cond disp) 0 6 = op ∧ field (encodeB17 op cond disp) 6 3 = cond ∧
      field (encodeB17 op cond disp) 9 17 = disp := by
  refine ⟨?_, ?_, ?_⟩ <;> apply BitVec.eq_of_getLsbD_eq <;> intro k hk <;>
    simp only [field, encodeB17, BitVec.getLsbD_append, BitVec.getLsbD_extractLsb'] <;> grind

@[simp] theorem field_encodeM7 (op : BitVec 6) (mask : BitVec 7) :
    field (encodeM7 op mask) 0 6 = op ∧ field (encodeM7 op mask) 6 7 = mask := by
  refine ⟨?_, ?_⟩ <;> apply BitVec.eq_of_getLsbD_eq <;> intro k hk <;>
    simp only [field, encodeM7, BitVec.getLsbD_append, BitVec.getLsbD_extractLsb'] <;> grind



/-! ## The decoder read backwards and forwards -/

theorem opcode_of_toNat {w : Word} {n : Nat} (h : (field w 0 6).toNat = n) : field w 0 6 = BitVec.ofNat 6 n :=
  BitVec.eq_of_toNat_eq (by rw [h, BitVec.toNat_ofNat, Nat.mod_eq_of_lt (h ▸ (field w 0 6).isLt)])

theorem function_of_toNat {w : Word} {n : Nat} (h : (field w 6 3).toNat = n) : field w 6 3 = BitVec.ofNat 3 n :=
  BitVec.eq_of_toNat_eq (by rw [h, BitVec.toNat_ofNat, Nat.mod_eq_of_lt (h ▸ (field w 6 3).isLt)])

section
variable {swap : Bool} {w : Word} {i : Instr}

/-- The return group read backwards: the function code is that of the instruction. -/
theorem spells_of_decodeReturnGroup (hop : field w 0 6 = 0o24#6) (h : decodeReturnGroup w = .ok i) :
    i.wellFormed = true ∧ Spells swap w i := by
  unfold decodeReturnGroup at h
  split at h <;> cases h <;> rename_i hfn <;>
    simp [Instr.wellFormed, Spells, usedFields, encodeWord, hop, function_of_toNat hfn]

theorem spells_of_decodeTrapGroup (hop : field w 0 6 = 0o34#6) (h : decodeTrapGroup w = .ok i) :
    i.wellFormed = true ∧ Spells swap w i := by
  unfold decodeTrapGroup at h
  split at h <;> cases h <;> rename_i hfn <;>
    simp [Instr.wellFormed, Spells, usedFields, encodeWord, hop, function_of_toNat hfn]

theorem toNat_eq_seven {fn : BitVec 3} (h0 : fn.toNat ≠ 0) (h1 : fn.toNat ≠ 1) (h2 : fn.toNat ≠ 2)
    (h3 : fn.toNat ≠ 3) (h4 : fn.toNat ≠ 4) (h5 : fn.toNat ≠ 5) (h6 : fn.toNat ≠ 6) : fn.toNat = 7 := by
  omega

theorem spells_decodeString (hop : field w 0 6 = 0o45#6) :
    (decodeString w).wellFormed = true ∧ Spells swap w (decodeString w) := by
  unfold decodeString
  split
  case h_8 h0 h1 h2 h3 h4 h5 h6 =>
    simp [Instr.wellFormed, Spells, usedFields, encodeWord, hop,
      function_of_toNat (toNat_eq_seven h0 h1 h2 h3 h4 h5 h6)]
  all_goals
    rename_i hfn
    simp [Instr.wellFormed, Spells, usedFields, encodeWord, hop, function_of_toNat hfn]

theorem spells_decodeBranch4 (hop : field w 0 6 = 0o05#6) :
    (decodeBranch4 w).wellFormed = true ∧ Spells swap w (decodeBranch4 w) := by
  unfold decodeBranch4
  split
  case h_8 h0 h1 h2 h3 h4 h5 h6 =>
    simp [Instr.wellFormed, Spells, usedFields, encodeWord, hop,
      function_of_toNat (toNat_eq_seven h0 h1 h2 h3 h4 h5 h6)]
  all_goals
    rename_i hfn
    simp [Instr.wellFormed, Spells, usedFields, encodeWord, hop, function_of_toNat hfn]

theorem spells_decodeBranch17 (hop : field w 0 6 = 0o15#6) :
    (decodeBranch17 w).wellFormed = true ∧ Spells swap w (decodeBranch17 w) := by
  unfold decodeBranch17
  split
  case h_8 h0 h1 h2 h3 h4 h5 h6 =>
    simp [Instr.wellFormed, Spells, usedFields, encodeWord, hop,
      function_of_toNat (toNat_eq_seven h0 h1 h2 h3 h4 h5 h6)]
  all_goals
    rename_i hfn
    simp [Instr.wellFormed, Spells, usedFields, encodeWord, hop, function_of_toNat hfn]

/-- A word that decodes to an instruction holds its encoding, and the instruction is well-formed. -/
theorem spells_of_decodeWord (h : decodeWord swap w = .ok i) : i.wellFormed = true ∧ Spells swap w i := by
  unfold decodeWord decodeAsl decodeRol decodeLsr decodeRor at h
  split at h <;> try cases h
  all_goals rename_i hop; replace hop := opcode_of_toNat hop
  case h_38 => exact spells_of_decodeReturnGroup hop h
  case h_39 => exact spells_of_decodeTrapGroup hop h
  case h_40 => exact spells_decodeString hop
  case h_41 => exact spells_decodeBranch4 hop
  case h_42 => exact spells_decodeBranch17 hop
  case h_43 | h_44 => 
    split at h <;> cases h
    simp [Instr.wellFormed, Spells, usedFields, encodeWord, *]
  all_goals
    (try split_ifs) <;>
    simp [-BitVec.getLsbD_eq_getElem, Instr.wellFormed, Spells, usedFields, encodeWord, bit_eq_one, bit_eq_zero,
      rolOpcode, lsrOpcode, *] 


/-- A word that holds the encoding of a well-formed instruction decodes to it. The cases are grouped by what decides
between the instructions of an opcode: nothing, bit 25, the target field, the opcode map, the function code. -/
theorem decodeWord_of_spells (hwf : i.wellFormed = true) (h : Spells swap w i) : decodeWord swap w = .ok i := by
  unfold Spells at h
  unfold decodeWord decodeAsl decodeRol decodeLsr decodeRor decodeReturnGroup decodeTrapGroup decodeString
    decodeBranch4 decodeBranch17
  cases i <;>
    simp only [usedFields, encodeWord, List.forall_mem_cons, field_encodeRR, field_encodeRI9, field_encodeRI23,
      field_encodeRI36, field_encodeSHI, field_encodeJ46, field_encodeR1, field_encodeF3, field_encodeB17,
      field_encodeM7, bit_eq_one, bit_eq_zero] at h
  case addRR | orRR | eorRR | ldRR | stRR | aslRR | rorRR | addI9 | orI9 | eorI9 | ldD9 | stD9 | aslI6 | rorI6 =>
    obtain ⟨hop, rfl, rfl, rfl, hbit, -⟩ := h
    rw [hop, hbit]; rfl
  case rolRR | lsrRR | rolI6 | lsrI6 =>
    obtain ⟨hop, rfl, rfl, rfl, hbit, -⟩ := h
    cases swap <;> rw [hop, hbit] <;> rfl
  case cmpRR | bitRR | cmpI9 | bitI9 =>
    obtain ⟨hop, hrt, rfl, rfl, hbit, -⟩ := h
    rw [hop, hrt, hbit]; rfl
  case subRR | andRR | subI9 | andI9 =>
    obtain ⟨hop, rfl, rfl, rfl, hbit, -⟩ := h
    rw [hop, hbit]
    exact congrArg Except.ok (if_neg (bne_iff_ne.1 hwf))
  case subI23 | andI23 | subI36 | andI36 =>
    obtain ⟨hop, rfl, rfl, rfl, -⟩ := h
    rw [hop]
    exact congrArg Except.ok (if_neg (bne_iff_ne.1 hwf))
  case cmpI23 | bitI23 | cmpI36 | bitI36 =>
    obtain ⟨hop, hrt, rfl, rfl, -⟩ := h
    rw [hop, hrt]; rfl
  case addI23 | orI23 | eorI23 | ldD23 | stD23 | addI36 | orI36 | eorI36 | ldD36 | stD36 | ldb | stb =>
    obtain ⟨hop, rfl, rfl, rfl, -⟩ := h
    rw [hop]; rfl
  case jmpAbs | jsrAbs | jmpReg | jsrReg | psh | pop | sep | rep =>
    obtain ⟨hop, rfl, -⟩ := h
    rw [hop]; rfl
  case php | plp => rw [h.1]; rfl
  case rts | rti | pfi | wai | stp | nop | rst | nmi | irq | mvnb | mvpb | stsb | cmpsb | mvn | mvp | sts | cmps =>
    obtain ⟨hop, hfn, -⟩ := h
    rw [hop, hfn]; rfl
  all_goals -- the branches and BRK: a function code and an operand
    obtain ⟨hop, hfn, rfl, -⟩ := h
    rw [hop, hfn]; rfl

theorem decodeWord_eq_ok_iff : decodeWord swap w = .ok i ↔ i.wellFormed = true ∧ Spells swap w i :=
  ⟨spells_of_decodeWord, fun ⟨hwf, h⟩ => decodeWord_of_spells hwf h⟩

end

/-- Settles O2: the decoder read in both directions. -/
theorem decodesExactlyTheEncodings : Obligations.DecodesExactlyTheEncodings := by
  unfold Obligations.DecodesExactlyTheEncodings
  intro swap w i
  rw [decodeWord_eq_ok_iff, spells_iff]

/-! ## Lengths -/

section
variable {swap : Bool} {w : Word} {i : Instr}

theorem opcode_mem_usedFields (i : Instr) : (0, 6) ∈ usedFields i := by
  cases i <;> exact List.mem_cons_self

theorem opcode_of_decodeWord (h : decodeWord swap w = .ok i) : field w 0 6 = field (encodeWord swap i) 0 6 :=
  (spells_of_decodeWord h).2 _ (opcode_mem_usedFields i)

/-- The encoder gives every instruction an opcode of its own length (`30_encoding.md` R82). -/
theorem opcodeLength_encodeWord (swap : Bool) (i : Instr) :
    opcodeLength (field (encodeWord swap i) 0 6) = some i.length := by
  cases i <;>
    simp only [encodeWord, field_encodeRR, field_encodeRI9, field_encodeRI23, field_encodeRI36, field_encodeSHI,
      field_encodeJ46, field_encodeR1, field_encodeF3, field_encodeB17, field_encodeM7]
  case rolRR | lsrRR | rolI6 | lsrI6 => cases swap <;> rfl
  all_goals rfl

theorem opcodeLength_of_decodeWord (h : decodeWord swap w = .ok i) : opcodeLength (field w 0 6) = some i.length := by
  rw [opcode_of_decodeWord h, opcodeLength_encodeWord]

theorem opcodeLength_ne_zero : ∀ op : BitVec 6, opcodeLength op ≠ some 0 := by decide

theorem opcodeLength_le_four : ∀ (op : BitVec 6) (len : Nat), opcodeLength op = some len → len ≤ 4 := by
  intro op len h
  have hall : ∀ op : BitVec 6, (opcodeLength op).all (· ≤ 4) = true := by decide
  simpa [h] using hall op

theorem length_pos (i : Instr) : 0 < i.length :=
  Nat.pos_of_ne_zero fun h => opcodeLength_ne_zero _ (h ▸ opcodeLength_encodeWord false i)

end

/-! ## Decoding bytes -/

/-- The low bits of joined bytes are those of the first byte. -/
theorem field_joinBytes_cons (first : Byte) (rest : List Byte) {lo len : Nat} (h : lo + len ≤ 13) :
    field (joinBytes (first :: rest)) lo len = first.extractLsb' lo len := by
  apply BitVec.eq_of_getLsbD_eq
  intro k hk
  have hdiv : (lo + k) / 13 = 0 := by omega
  have hmod : (lo + k) % 13 = lo + k := by omega
  simp only [getLsbD_field, getLsbD_joinBytes _ (show lo + k < 52 by omega), hdiv, hmod, List.getD_cons_zero,
    BitVec.getLsbD_extractLsb']

/-- Decoding with the length that the first byte gives (`30_encoding.md` R81). -/
theorem decode_of_opcodeLength {swap : Bool} {first : Byte} {rest : List Byte} {len : Nat}
    (hlen : opcodeLength (first.extractLsb' 0 6) = some len) (hle : len ≤ (first :: rest).length) :
    decode swap (first :: rest) = decodeWord swap (joinBytes ((first :: rest).take len)) := by
  rw [decode, hlen]
  exact if_neg (by omega)

theorem opcodeLength_of_decode {swap : Bool} {first : Byte} {rest : List Byte} {i : Instr}
    (h : decode swap (first :: rest) = .ok i) : opcodeLength (first.extractLsb' 0 6) = some i.length := by
  cases hlen : opcodeLength (first.extractLsb' 0 6) with
  | none => simp [decode, hlen] at h
  | some len =>
    by_cases hle : len ≤ (first :: rest).length
    · rw [decode_of_opcodeLength hlen hle] at h
      obtain ⟨n, rfl⟩ := Nat.exists_eq_succ_of_ne_zero fun h0 : len = 0 => opcodeLength_ne_zero _ (h0 ▸ hlen)
      rw [← opcodeLength_of_decodeWord h, List.take_succ_cons, field_joinBytes_cons _ _ (by decide), hlen]
    · simp only [decode, hlen, if_pos (not_le.1 hle)] at h
      cases h

/-- Settles O1: the first byte gives the length, and the bytes of that length agree with the encoding in every bit
of the instruction. -/
theorem decodeInvertsEncode : Obligations.DecodeInvertsEncode := by
  unfold Obligations.DecodeInvertsEncode
  intro swap i rest hwf
  have hbytes : (encode swap i ++ rest).take i.length = splitBytes i.length (encodeWord swap i) := by
    rw [encode, List.take_left' (length_splitBytes _ _)]
  obtain ⟨n, hn⟩ := Nat.exists_eq_add_one.2 (length_pos i)
  have hsplit : splitBytes i.length (encodeWord swap i) =
      (encodeWord swap i).extractLsb' 0 13 :: splitBytes n (encodeWord swap i >>> 13) := by
    rw [hn, splitBytes]
  have hopcode : ((encodeWord swap i).extractLsb' 0 13).extractLsb' 0 6 = field (encodeWord swap i) 0 6 := by
    rw [← field_joinBytes_cons _ [] (by decide)]
    refine field_eq_field_iff.2 fun k hk => ?_
    have hbit := getLsbD_joinBytes_splitBytes 1 (encodeWord swap i) (show k < 52 by omega)
    simpa [splitBytes, show k < 13 by omega] using hbit
  have hfirst : encode swap i ++ rest =
      (encodeWord swap i).extractLsb' 0 13 :: (splitBytes n (encodeWord swap i >>> 13) ++ rest) := by
    rw [encode, hsplit, List.cons_append]
  rw [hfirst, decode_of_opcodeLength (hopcode ▸ opcodeLength_encodeWord swap i)
    (by rw [← hfirst, List.length_append, encode, length_splitBytes]; omega), ← hfirst, hbytes]
  refine decodeWord_of_spells hwf ((spells_iff _ _ _).2 fun k hk hused => ?_)
  have hlt : k < 13 * i.length := by
    simp only [isUnusedBit, Bool.or_eq_false_iff, decide_eq_false_iff_not] at hused
    omega
  rw [getLsbD_joinBytes_splitBytes _ _ hk, decide_eq_true hlt, Bool.true_and]

/-- Settles O3. -/
theorem lengthByOpcode : Obligations.LengthByOpcode := by
  unfold Obligations.LengthByOpcode
  exact ⟨fun _ _ _ _ h => opcodeLength_of_decode h, by decide⟩

/-! ## The target field -/

/-- Which of SUB, CMP, AND and BIT an opcode and a target field make (`30_encoding.md` R95). -/
def familyOf (opcode : Nat) (rt : RegNo) : TargetFamily :=
  if opcode ∈ [0o10, 0o11, 0o12] then (if rt = 0#5 then .cmp else .sub)
  else if opcode ∈ [0o30, 0o31, 0o32] then (if rt = 0#5 then .bit else .and)
  else .other

theorem targetFamily_of_decodeWord {swap : Bool} {w : Word} {i : Instr} (h : decodeWord swap w = .ok i) :
    targetFamily i = familyOf (field w 0 6).toNat (field w 6 5) := by
  obtain ⟨hwf, hspells⟩ := spells_of_decodeWord h
  unfold Spells at hspells
  cases i <;>
    simp only [usedFields, encodeWord, List.forall_mem_cons, field_encodeRR, field_encodeRI9, field_encodeRI23,
      field_encodeRI36, field_encodeSHI, field_encodeJ46, field_encodeR1, field_encodeF3, field_encodeB17,
      field_encodeM7] at hspells
  case subRR | subI9 | subI23 | subI36 | andRR | andI9 | andI23 | andI36 =>
    obtain ⟨hop, hrt, -⟩ := hspells
    rw [hop, hrt]
    exact (if_neg (bne_iff_ne.1 hwf)).symm
  case cmpRR | cmpI9 | cmpI23 | cmpI36 | bitRR | bitI9 | bitI23 | bitI36 =>
    obtain ⟨hop, hrt, -⟩ := hspells
    rw [hop, hrt]; rfl
  case rolRR | rolI6 | lsrRR | lsrI6 => cases swap <;> rw [hspells.1] <;> rfl
  all_goals rw [hspells.1]; rfl

theorem familyOf_iff (opcode : Nat) (rt : RegNo) :
    (familyOf opcode rt = .cmp ↔ opcode ∈ [0o10, 0o11, 0o12] ∧ rt = 0#5) ∧
      (familyOf opcode rt = .sub ↔ opcode ∈ [0o10, 0o11, 0o12] ∧ rt ≠ 0#5) ∧
      (familyOf opcode rt = .bit ↔ opcode ∈ [0o30, 0o31, 0o32] ∧ rt = 0#5) ∧
      (familyOf opcode rt = .and ↔ opcode ∈ [0o30, 0o31, 0o32] ∧ rt ≠ 0#5) := by
  have hdisjoint : opcode ∈ [0o10, 0o11, 0o12] → opcode ∉ [0o30, 0o31, 0o32] := by
    simp only [List.mem_cons, List.not_mem_nil, or_false]
    omega
  unfold familyOf
  split
  · by_cases hrt : rt = 0#5 <;> simp_all
  · split
    · by_cases hrt : rt = 0#5 <;> simp_all
    · simp_all

/-- Settles O5: opcode and target field decide the family. -/
theorem targetZeroSelectsCmpAndBit : Obligations.TargetZeroSelectsCmpAndBit := by
  unfold Obligations.TargetZeroSelectsCmpAndBit
  intro swap w i h
  rw [targetFamily_of_decodeWord h]
  exact familyOf_iff _ _

/-! ## Words that decode to nothing -/

/-- The opcodes that R98 leaves unassigned whatever the function code. -/
theorem isUnassigned_of_no_length : ∀ (op : BitVec 6) (fn : BitVec 3),
    opcodeLength op = none → isUnassigned op.toNat fn.toNat = true := by
  decide

/-- An assigned encoding is no row of the table of unassigned ones. -/
theorem isUnassigned_of_ok {swap : Bool} {w : Word} {i : Instr} (h : decodeWord swap w = .ok i) :
    isUnassigned (field w 0 6).toNat (field w 6 3).toNat = false := by
  obtain ⟨-, hspells⟩ := spells_of_decodeWord h
  unfold Spells at hspells
  cases i <;>
    simp only [usedFields, encodeWord, List.forall_mem_cons, field_encodeRR, field_encodeRI9, field_encodeRI23,
      field_encodeRI36, field_encodeSHI, field_encodeJ46, field_encodeR1, field_encodeF3, field_encodeB17,
      field_encodeM7] at hspells
  case rts | rti | pfi | wai | stp | nop | rst | nmi | irq | brk | braD4 | braD17 => rw [hspells.1, hspells.2.1]; rfl
  case rolRR | rolI6 | lsrRR | lsrI6 => cases swap <;> rw [hspells.1] <;> rfl
  all_goals rw [hspells.1]; rfl

/-- A word with an opcode of the length table that decodes to nothing has an unassigned function code. -/
theorem isUnassigned_of_error {swap : Bool} {w : Word} {e : DecodeError} (h : decodeWord swap w = .error e)
    (hlen : opcodeLength (field w 0 6) ≠ none) : isUnassigned (field w 0 6).toNat (field w 6 3).toNat = true := by
  unfold decodeWord at h
  split at h <;> try cases h
  case h_38 hop => -- 24o
    unfold decodeReturnGroup at h
    split at h <;> cases h
    rw [hop]
    generalize field w 6 3 = fn at *
    revert fn
    decide
  case h_39 hop => -- 34o
    unfold decodeTrapGroup at h
    split at h <;> cases h
    rw [hop]
    generalize field w 6 3 = fn at *
    revert fn
    decide
  case h_43 hop | h_44 hop => -- 25o and 35o
    split at h <;> cases h
    rename_i hne
    rw [hop]
    simpa [isUnassigned, ← BitVec.toNat_inj] using hne
  · unfold opcodeLength at hlen
    split at hlen <;> contradiction

/-- Settles O7: the twelve words, decoded. -/
theorem specWordsDecode : Obligations.SpecWordsDecode := by
  unfold Obligations.SpecWordsDecode
  decide

end Sys2Proof
end

section
/-! PROOFS. Fetch and step (`30_encoding.md` R81, `60_exceptions.md` R330): what a fetch answers where no byte stops
it, where one does, and what a boundary does. -/

namespace Sys2Proof.Machine

/-! ## Fetching bytes -/

theorem length_bytesFrom (m : Memory) (a : Word) (n : Nat) : (bytesFrom m a n).length = n := by
  induction n generalizing a with
  | zero => rfl
  | succ n ih => simp [bytesFrom, ih]

/-- A fetch of bytes goes on exactly if no byte stops it. -/
theorem State.fetchStops_eq_none {s : State} {a : Word} {n : Nat} :
    s.fetchStops a n = none ↔ ∀ k < n, s.fetchStop (a + BitVec.ofNat 52 k) = none := by
  induction n generalizing a with
  | zero => simp [State.fetchStops]
  | succ n ih =>
    rw [Nat.forall_lt_succ_left', State.fetchStops, BitVec.add_zero]
    cases s.fetchStop a with
    | some stop => simp
    | none => simp only [ih, true_and, BitVec.ofNat_add, BitVec.add_assoc, BitVec.add_comm 1#52]

/-- What stops a fetch of bytes is what stops the fetch of one of them. -/
theorem State.exists_fetchStop_of_fetchStops {s : State} {a : Word} {n : Nat} {stop : Fetched}
    (h : s.fetchStops a n = some stop) : ∃ k < n, s.fetchStop (a + BitVec.ofNat 52 k) = some stop := by
  induction n generalizing a with
  | zero => cases h
  | succ n ih =>
    rw [State.fetchStops] at h
    cases hfirst : s.fetchStop a with
    | some first => exact ⟨0, n.succ_pos, by simpa only [hfirst, BitVec.add_zero] using h⟩
    | none =>
      simp only [hfirst] at h
      obtain ⟨k, hk, hstop⟩ := ih h
      exact ⟨k + 1, Nat.succ_lt_succ hk, by rw [← hstop, BitVec.ofNat_add, BitVec.add_assoc, BitVec.add_comm 1#52]⟩

/-- Where bytes are plain memory a fetch is stopped by a stored-to byte and by nothing else (`20_memory.md` R70). -/
theorem State.fetchStop_of_accessible {s : State} {a : Word} (h : ByteAccessible s.cfg a) :
    s.fetchStop a = if s.staleByte a then some (.fault .fetchFromWritten) else none := by
  rw [State.fetchStop, (plainByte_eq_true _ _).2 h]
  rfl

/-! ## Fetching an instruction -/

section
variable {s : State} {i : Instr}

/-- The first byte of bytes that decode to an instruction gives its length (`30_encoding.md` R81). -/
theorem opcodeLength_of_decode_bytesFrom {swap : Bool} {m : Memory} {a : Word}
    (h : decode swap (bytesFrom m a i.length) = .ok i) :
    opcodeLength ((byteAt m a.toNat).extractLsb' 0 6) = some i.length := by
  obtain ⟨n, hn⟩ := Nat.exists_eq_add_one.2 (length_pos i)
  rw [hn, bytesFrom] at h
  exact opcodeLength_of_decode h

/-- Where no byte stops it, a fetch answers the instruction the bytes at pc decode to. -/
theorem State.fetch_eq_instruction (hstops : ∀ k < i.length, s.fetchStop (s.pc + BitVec.ofNat 52 k) = none)
    (hdecode : decode s.cfg.swapRolLsr (bytesFrom s.fetchMemory s.pc i.length) = .ok i) :
    s.fetch = .instruction i := by
  have hfirst : s.fetchStop s.pc = none := by simpa using hstops 0 (length_pos i)
  simp only [State.fetch, hfirst, opcodeLength_of_decode_bytesFrom hdecode, State.fetchStops_eq_none.2 hstops, hdecode]

/-- Where one byte stops it, and every byte that stops it does so alike, a fetch stops in that way. -/
theorem State.fetch_eq_stop {stop : Fetched} {k : Nat} (hk : k < i.length)
    (hdecode : decode s.cfg.swapRolLsr (bytesFrom s.fetchMemory s.pc i.length) = .ok i)
    (hstop : s.fetchStop (s.pc + BitVec.ofNat 52 k) = some stop)
    (honly : ∀ j < i.length, ∀ other, s.fetchStop (s.pc + BitVec.ofNat 52 j) = some other → other = stop) :
    s.fetch = stop := by
  cases hfirst : s.fetchStop s.pc with
  | some first =>
    simp only [State.fetch, hfirst]
    exact honly 0 (length_pos i) first (by simpa using hfirst)
  | none =>
    cases hstops : s.fetchStops s.pc i.length with
    | none => simp [State.fetchStops_eq_none.1 hstops k hk] at hstop
    | some later =>
      obtain ⟨j, hj, hlater⟩ := State.exists_fetchStop_of_fetchStops hstops
      simp only [State.fetch, hfirst, opcodeLength_of_decode_bytesFrom hdecode, hstops]
      exact honly j hj later hlater

/-- Where no byte stops it, a fetch faults where the first byte gives no length or the bytes decode to nothing. -/
theorem State.fetch_eq_illegalOpcode_iff
    (hstops : ∀ k < 4, s.fetchStop (s.pc + BitVec.ofNat 52 k) = none) :
    s.fetch = .fault .illegalOpcode ↔
      ∀ len, opcodeLength ((byteAt s.fetchMemory s.pc.toNat).extractLsb' 0 6) = some len →
        ∃ e, decode s.cfg.swapRolLsr (bytesFrom s.fetchMemory s.pc len) = .error e := by
  have hfirst : s.fetchStop s.pc = none := by simpa using hstops 0 (by decide)
  cases hlen : opcodeLength ((byteAt s.fetchMemory s.pc.toNat).extractLsb' 0 6) with
  | none => simp [State.fetch, hfirst, hlen]
  | some len =>
    have hall : s.fetchStops s.pc len = none :=
      State.fetchStops_eq_none.2 fun k hk => hstops k (hk.trans_le (opcodeLength_le_four _ _ hlen))
    cases hdecode : decode s.cfg.swapRolLsr (bytesFrom s.fetchMemory s.pc len) <;>
      simp [State.fetch, hfirst, hlen, hall, hdecode]

end

/-- Settles O6: the length table leaves out the opcodes that are unassigned whatever the function code, and the
decoder rejects the unassigned function codes of the others. -/
theorem unassignedEncodingsFault : Obligations.UnassignedEncodingsFault := by
  unfold Obligations.UnassignedEncodingsFault
  intro s hstops
  rw [State.fetch_eq_illegalOpcode_iff hstops]
  generalize s.fetchMemory = m
  cases hlen : opcodeLength ((byteAt m s.pc.toNat).extractLsb' 0 6) with
  | none => exact iff_of_true nofun (isUnassigned_of_no_length _ _ hlen)
  | some len =>
    obtain ⟨n, rfl⟩ := Nat.exists_eq_succ_of_ne_zero fun h0 : len = 0 => opcodeLength_ne_zero _ (h0 ▸ hlen)
    have hword : decode s.cfg.swapRolLsr (bytesFrom m s.pc (n + 1)) =
        decodeWord s.cfg.swapRolLsr (joinBytes (bytesFrom m s.pc (n + 1))) := by
      have hlength := length_bytesFrom m s.pc (n + 1)
      rw [bytesFrom] at hlength ⊢
      rw [decode_of_opcodeLength hlen (by omega), List.take_of_length_le (by omega)]
    have hop : field (joinBytes (bytesFrom m s.pc (n + 1))) 0 6 = (byteAt m s.pc.toNat).extractLsb' 0 6 :=
      field_joinBytes_cons _ _ (by decide)
    have hfn : field (joinBytes (bytesFrom m s.pc (n + 1))) 6 3 = (byteAt m s.pc.toNat).extractLsb' 6 3 :=
      field_joinBytes_cons _ _ (by decide)
    simp only [Nat.succ_eq_add_one, Option.some.injEq, forall_eq', hword]
    cases hdecode : decodeWord s.cfg.swapRolLsr (joinBytes (bytesFrom m s.pc (n + 1))) with
    | ok i => simp [← hop, ← hfn, isUnassigned_of_ok hdecode]
    | error e => simp [← hop, ← hfn, isUnassigned_of_error hdecode (by simp [hop, hlen])]

/-! ## Steps -/

theorem step_of_execute {s : State} (h : s.boundary = .execute) : step s = s.takeRequests.fetchAndExecute := by
  rw [step, h]

theorem step_of_fetch {s : State} {i : Instr} (h : s.boundary = .execute)
    (hfetch : s.takeRequests.fetch = .instruction i) : step s = exec i s.takeRequests := by
  rw [step_of_execute h, State.fetchAndExecute, hfetch]

/-- Settles O8. -/
theorem stepRunsDecodedInstruction : Obligations.StepRunsDecodedInstruction := by
  unfold Obligations.StepRunsDecodedInstruction
  intro s i hboundary hstops hdecode
  exact step_of_fetch hboundary (State.fetch_eq_instruction (s := s.takeRequests) hstops hdecode)

/-- Settles O9: under a coherent fetch no byte is stale; else each byte that stops the fetch is, and one does. -/
theorem fetchFromWrittenFaults : Obligations.FetchFromWrittenFaults := by
  unfold Obligations.FetchFromWrittenFaults
  intro s i k hboundary hunified haccess hdecode hk hwritten
  have hstop : ∀ j < i.length, s.takeRequests.fetchStop (s.pc + BitVec.ofNat 52 j) =
      if s.staleByte (s.pc + BitVec.ofNat 52 j) then some (.fault .fetchFromWritten) else none :=
    fun j hj => State.fetchStop_of_accessible (s := s.takeRequests) (haccess j hj)
  have hbytes : s.takeRequests.fetchMemory = s.mem := by simp [State.fetchMemory, hunified]
  rw [← hbytes] at hdecode
  cases hcoherent : s.cfg.ifetchCoherent with
  | true =>
    refine step_of_fetch hboundary (State.fetch_eq_instruction (fun j hj => ?_) hdecode)
    rw [State.takeRequests_pc, hstop j hj]
    simp [State.staleByte, hcoherent]
  | false =>
    have hstale : s.staleByte (s.pc + BitVec.ofNat 52 k) = true := by
      simp only [State.staleByte, hunified, hcoherent, List.contains_eq_mem, decide_eq_true hwritten, Bool.not_false,
        Bool.and_self]
    have hfault : s.takeRequests.fetch = .fault .fetchFromWritten := by
      refine State.fetch_eq_stop hk hdecode (by rw [State.takeRequests_pc, hstop k hk, if_pos hstale]) ?_
      intro j hj other hother
      rw [State.takeRequests_pc, hstop j hj] at hother
      split at hother <;> simp_all
    rw [step_of_execute hboundary, State.fetchAndExecute, hfault]
    rfl

/-- Settles O10, rule by rule (`60_exceptions.md` R330). -/
theorem boundaryPriority : Obligations.BoundaryPriority := by
  unfold Obligations.BoundaryPriority
  intro s
  refine ⟨?_, ?_, ?_, ?_, ?_, ?_, ?_⟩
  · intro hrst
    simp [step, State.boundary, boundaryAction, hrst]
  · intro hrst hrun
    simp [step, State.boundary, boundaryAction, hrst, hrun]
  · intro hrst hrun hnmi
    simp [step, State.boundary, boundaryAction, hrst, hrun, hnmi]
  · intro hrst hrun hnmi hirq hi
    simp [step, State.boundary, boundaryAction, hrst, hrun, hnmi, hirq, hi]
  · intro hrst hrun hnmi hirq hi
    simp [step, State.boundary, boundaryAction, hrst, hrun, hnmi, hirq, hi, State.wake]
  · intro hrst hrun hnmi hirq
    simp [step, State.boundary, boundaryAction, hrst, hrun, hnmi, hirq]
  · intro hrst hrun hnmi hmasked
    have hexecute : s.boundary = .execute := by
      rcases hmasked with hirq | hi <;> simp [State.boundary, boundaryAction, *]
    exact ⟨hexecute, step_of_execute hexecute⟩

end Sys2Proof.Machine
end

section
/-! PROOFS. The effect of an operation: which registers and flags it may write, which bytes it stores, the run state and
the record it leaves. One rule per update of the state; the effect of an operation is put together from them, and the
frames of the statements are read off it. -/

namespace Sys2Proof.Machine

/-! ## Bytes stored one after the other -/

/-- A byte stored at an address. -/
abbrev ByteStore := Word × Byte

/-- The memory after some bytes have been stored. -/
def storeAll (m : Memory) (ws : List ByteStore) : Memory :=
  ws.foldl (fun m w => setByteAt m w.1.toNat w.2) m

/-- The record of stored-to bytes after some bytes have been stored (`20_memory.md` R70). -/
def recordAll (record : AddressSet) (ws : List ByteStore) : AddressSet :=
  ws.foldl (fun record w => addAddress record w.1.toNat) record

theorem byteAt_storeAll_outside (m : Memory) {ws : List ByteStore} {x : Nat} (h : ∀ w ∈ ws, x ≠ w.1.toNat) :
    byteAt (storeAll m ws) x = byteAt m x := by
  induction ws generalizing m with
  | nil => rfl
  | cons w ws ih =>
    obtain ⟨hw, hws⟩ := List.forall_mem_cons.1 h
    exact (ih _ hws).trans (byteAt_setByteAt_other m _ x _ hw)

theorem mem_recordAll {record : AddressSet} {ws : List ByteStore} {x : Nat} :
    x ∈ recordAll record ws ↔ x ∈ record ∨ ∃ w ∈ ws, x = w.1.toNat := by
  induction ws generalizing record with
  | nil => simp [recordAll]
  | cons w ws ih =>
    have hstep : recordAll record (w :: ws) = recordAll (addAddress record w.1.toNat) ws := rfl
    rw [hstep, ih, mem_addAddress, List.exists_mem_cons_iff]
    tauto

theorem wf_storeAll {m : Memory} (h : m.wf = true) (ws : List ByteStore) : (storeAll m ws).wf = true := by
  induction ws generalizing m with
  | nil => exact h
  | cons w ws ih => exact ih (wf_setByteAt h w.1.isLt w.2)

theorem wf_recordAll {record : AddressSet} (h : record.wf = true) (ws : List ByteStore) :
    (recordAll record ws).wf = true := by
  induction ws generalizing record with
  | nil => exact h
  | cons w ws ih => exact ih (wf_addAddress h w.1.isLt)

/-- The four bytes of a word store (`20_memory.md` R54). -/
def wordStores (little : Bool) (a v : Word) : List ByteStore :=
  [(a, wordByte little v 0), (a + 1#52, wordByte little v 1), (a + 2#52, wordByte little v 2),
    (a + 3#52, wordByte little v 3)]

/-- The bytes of an element store (`46_string.md` R266, R272). -/
def elementStores (little : Bool) (e : Element) (a v : Word) : List ByteStore :=
  match e with
  | .word => wordStores little a v
  | .byte => [(a, v.extractLsb' 0 13)]

/-- The number of bytes of an element. -/
def elementLength : Element → Nat
  | .word => 4
  | .byte => 1

/-! ## The addresses of stores -/

/-- The addresses stored to are those of a span of bytes, or there are none (`storeSpan`). -/
def Spans (ws : List ByteStore) (span : Option (Word × Nat)) : Prop :=
  ∀ a, (∃ w ∈ ws, w.1 = a) ↔ ∃ base n, span = some (base, n) ∧ ∃ k < n, a = base + BitVec.ofNat 52 k

theorem spans_nil : Spans [] none := by
  simp [Spans]

theorem spans_some {ws : List ByteStore} {base : Word} {n : Nat} :
    Spans ws (some (base, n)) ↔ ∀ a, (∃ w ∈ ws, w.1 = a) ↔ ∃ k < n, a = base + BitVec.ofNat 52 k := by
  simp [Spans]

theorem spans_byte (a : Word) (v : Byte) : Spans [(a, v)] (some (a, 1)) := by
  simp [spans_some, eq_comm]

theorem spans_wordStores (little : Bool) (a v : Word) : Spans (wordStores little a v) (some (a, 4)) := by
  rw [spans_some]
  intro x
  simp only [wordStores, List.exists_mem_cons_iff, Nat.exists_lt_succ_left, Nat.not_lt_zero, BitVec.add_zero]
  simp [eq_comm]

theorem spans_elementStores (little : Bool) (e : Element) (a v : Word) :
    Spans (elementStores little e a v) (some (a, elementLength e)) := by
  cases e
  · exact spans_wordStores little a v
  · exact spans_byte a _

/-- Two words one below the other are a span of eight bytes: the pushes of a trap entry (`60_exceptions.md` R320). -/
theorem spans_trapFrame (little : Bool) (sp v v' : Word) :
    Spans (wordStores little (sp - 4#52) v ++ wordStores little (sp - 8#52) v') (some (sp - 8#52, 8)) := by
  have hhigh : ∀ k < 4, sp - 4#52 + BitVec.ofNat 52 k = sp - 8#52 + BitVec.ofNat 52 (k + 4) := by
    intro k _
    rw [BitVec.ofNat_add]
    bv_omega
  rw [spans_some]
  intro a
  simp only [List.mem_append, or_and_right, exists_or, spans_some.1 (spans_wordStores little _ _) a]
  constructor
  · rintro (⟨k, hk, rfl⟩ | ⟨k, hk, rfl⟩)
    · exact ⟨k + 4, by omega, hhigh k hk⟩
    · exact ⟨k, by omega, rfl⟩
  · rintro ⟨k, hk, rfl⟩
    by_cases hlow : k < 4
    · exact .inr ⟨k, hlow, rfl⟩
    · exact .inl ⟨k - 4, by omega, by rw [hhigh _ (by omega), Nat.sub_add_cancel (by omega)]⟩

/-- An address at least `n` bytes above the base of a span of `n` bytes is outside it. -/
theorem Spans.outside {ws : List ByteStore} {span : Option (Word × Nat)} (h : Spans ws span) {x : Word}
    (hx : ∀ a n, span = some (a, n) → n ≤ (x - a).toNat) : ∀ w ∈ ws, x.toNat ≠ w.1.toNat := by
  intro w hw e
  obtain ⟨base, n, hspan, k, hk, hk'⟩ := (h x).1 ⟨w, hw, BitVec.eq_of_toNat_eq e.symm⟩
  have hle := hx base n hspan
  have hsub : x - base = BitVec.ofNat 52 k := by rw [hk']; bv_omega
  rw [hsub, BitVec.toNat_ofNat] at hle
  exact absurd (hle.trans (Nat.mod_le _ _)) (not_le.2 hk)

/-! ## The flags a computation keeps, as a row of the flag table (`10_state.md` R28) -/

theorem setNZ_keeps (sr : StatusRegister) (r : Word) (f : Flag) (h : f ∉ [Flag.n, .z]) :
    (sr.setNZ r).get f = sr.get f := by
  simp only [List.mem_cons, List.not_mem_nil, or_false, not_or] at h
  exact StatusRegister.get_setNZ_other _ _ h.1 h.2

theorem afterAdd_keeps (sr : StatusRegister) (a b : Word) (f : Flag) (h : f ∉ [Flag.c, .v, .n, .z]) :
    (sr.afterAdd a b).get f = sr.get f := by
  simp only [List.mem_cons, List.not_mem_nil, or_false, not_or] at h
  obtain ⟨hc, hv, hn, hz⟩ := h
  exact StatusRegister.get_afterAdd_other _ _ _ hc hv hn hz

theorem afterSub_keeps (sr : StatusRegister) (cfg : Config) (a b : Word) (f : Flag) (h : f ∉ [Flag.c, .v, .n, .z]) :
    (sr.afterSub cfg a b).get f = sr.get f := by
  simp only [List.mem_cons, List.not_mem_nil, or_false, not_or] at h
  obtain ⟨hc, hv, hn, hz⟩ := h
  exact StatusRegister.get_afterSub_other _ _ _ _ hc hv hn hz

theorem afterCompare_keeps (sr : StatusRegister) (cfg : Config) (a b : Word) (f : Flag) (h : f ∉ [Flag.c, .n, .z]) :
    (sr.afterCompare cfg a b).get f = sr.get f := by
  simp only [List.mem_cons, List.not_mem_nil, or_false, not_or] at h
  obtain ⟨hc, hn, hz⟩ := h
  exact StatusRegister.get_afterCompare_other _ _ _ _ hc hn hz

theorem afterBit_keeps (sr : StatusRegister) (r : Word) (f : Flag) (h : f ∉ [Flag.v, .n, .z]) :
    (sr.afterBit r).get f = sr.get f := by
  simp only [List.mem_cons, List.not_mem_nil, or_false, not_or] at h
  obtain ⟨hv, hn, hz⟩ := h
  exact StatusRegister.get_afterBit_other _ _ hv hn hz

theorem afterShift_keeps (sr : StatusRegister) (r : Word) (carry : Bool) (f : Flag) (h : f ∉ [Flag.c, .n, .z]) :
    (sr.afterShift r carry).get f = sr.get f := by
  simp only [List.mem_cons, List.not_mem_nil, or_false, not_or] at h
  obtain ⟨hc, hn, hz⟩ := h
  exact StatusRegister.get_afterShift_other _ _ _ hc hn hz

theorem writeMasked_keeps (sr : StatusRegister) (cfg : Config) (mask : BitVec 7) (value : Bool) (f : Flag)
    (h : f ∉ [Flag.c, .v, .n, .z, .i, .u]) : (sr.writeMasked cfg mask value).get f = sr.get f := by
  rw [StatusRegister.writeMasked, StatusRegister.get_ofFlags]
  cases f <;> first | rfl | simp at h

/-! ## Effects -/

/-- From `s` to `t` only the registers and flags listed may have changed; the bytes listed have been stored, in this
order, and were added to `record`; the run state is now `run`. -/
structure Effect (s t : State) (regs : List RegNo) (flags : List Flag) (run : RunState) (record : AddressSet)
    (ws : List ByteStore) : Prop where
  regs : KeepsRegs s t regs
  regZero : t.regs[0] = s.regs[0]
  flags : KeepsFlags s t flags
  rest : KeepsRest s t
  run : t.run = run
  mem : t.mem = storeAll s.mem ws
  written : t.written = recordAll record ws

namespace Effect

theorem refl (s : State) (regs : List RegNo) (flags : List Flag) : Effect s s regs flags s.run s.written [] where
  regs _ _ := rfl
  regZero := rfl
  flags _ _ := rfl
  rest := ⟨rfl, rfl, rfl⟩
  run := rfl
  mem := rfl
  written := rfl

theorem startRecord (s : State) (kind : TrapKind) (regs : List RegNo) (flags : List Flag) :
    Effect s (s.startRecord kind) regs flags s.run (if kind = .rst then [] else s.written) [] where
  regs _ _ := rfl
  regZero := rfl
  flags _ _ := rfl
  rest := ⟨rfl, rfl, rfl⟩
  run := rfl
  mem := rfl
  written := rfl

section
variable {s t : State} {regs : List RegNo} {flags : List Flag} {run : RunState} {record : AddressSet}
  {ws : List ByteStore}

theorem setPc (h : Effect s t regs flags run record ws) (target : Word) :
    Effect s (t.setPc target) regs flags run record ws :=
  ⟨h.regs, h.regZero, h.flags, h.rest, h.run, h.mem, h.written⟩

theorem advance (h : Effect s t regs flags run record ws) (len : Nat) :
    Effect s (t.advance len) regs flags run record ws :=
  h.setPc _

theorem setRun (h : Effect s t regs flags run record ws) (run' : RunState) :
    Effect s { t with run := run' } regs flags run' record ws :=
  ⟨h.regs, h.regZero, h.flags, h.rest, rfl, h.mem, h.written⟩

theorem setSR (h : Effect s t regs flags run record ws) {sr : StatusRegister}
    (hsr : ∀ f, f ∉ flags → sr.get f = t.sr.get f) : Effect s (t.setSR sr) regs flags run record ws :=
  ⟨h.regs, h.regZero, fun f hf => (hsr f hf).trans (h.flags f hf), h.rest, h.run, h.mem, h.written⟩

theorem writeReg (h : Effect s t regs flags run record ws) {r : RegNo} (hr : r ∈ regs) (v : Word) :
    Effect s (t.writeReg r v) regs flags run record ws where
  regs x hx := by
    rw [State.readReg_writeReg_other _ _ _ _ (ne_of_mem_of_not_mem hr hx).symm]
    exact h.regs x hx
  regZero := by
    rw [← h.regZero, State.writeReg]
    split
    · rfl
    · rename_i hne
      exact Vector.getElem_set_ne r.isLt (by decide) fun e => hne (BitVec.eq_of_toNat_eq e)
  flags := by simpa only [KeepsFlags, State.writeReg_sr] using h.flags
  rest := by simpa only [KeepsRest, State.writeReg_cfg, State.writeReg_code, State.writeReg_inputs] using h.rest
  run := by rw [State.writeReg_run, h.run]
  mem := by rw [State.writeReg_mem, h.mem]
  written := by rw [State.writeReg_written, h.written]

theorem storeByte (h : Effect s t regs flags run record ws) (a : Word) (v : Byte) :
    Effect s (t.storeByte a v) regs flags run record (ws ++ [(a, v)]) where
  regs := h.regs
  regZero := h.regZero
  flags := h.flags
  rest := h.rest
  run := h.run
  mem := by simp [h.mem, storeAll]
  written := by simp [h.written, recordAll]

theorem storeWord (h : Effect s t regs flags run record ws) (a v : Word) :
    Effect s (t.storeWord a v) regs flags run record (ws ++ wordStores t.cfg.dataLittleEndian a v) := by
  have h4 := (((h.storeByte a (wordByte t.cfg.dataLittleEndian v 0)).storeByte (a + 1#52)
    (wordByte t.cfg.dataLittleEndian v 1)).storeByte (a + 2#52)
    (wordByte t.cfg.dataLittleEndian v 2)).storeByte (a + 3#52) (wordByte t.cfg.dataLittleEndian v 3)
  simp only [List.append_assoc] at h4
  exact h4

theorem storeElement (h : Effect s t regs flags run record ws) (e : Element) (a v : Word) :
    Effect s (t.storeElement e a v) regs flags run record (ws ++ elementStores t.cfg.dataLittleEndian e a v) := by
  cases e
  · exact h.storeWord a v
  · exact h.storeByte a _

theorem push (h : Effect s t regs flags run record ws) (hr : regSp ∈ regs) (v : Word) :
    Effect s (t.push v) regs flags run record (ws ++ wordStores t.cfg.dataLittleEndian (t.sp - 4#52) v) := by
  have hpush := (h.writeReg hr (t.sp - 4#52)).storeWord (t.sp - 4#52) v
  rwa [State.writeReg_cfg] at hpush

theorem dropWord (h : Effect s t regs flags run record ws) (hr : regSp ∈ regs) :
    Effect s t.dropWord regs flags run record ws :=
  h.writeReg hr _

theorem enterHandler (h : Effect s t regs flags run record ws) (hi : .i ∈ flags) (hb : .b ∈ flags)
    (kind : TrapKind) : Effect s (t.enterHandler kind) regs flags .running record ws :=
  ((h.setPc (t.loadWord (trapVector t.cfg kind))).setSR (sr := (t.enterHandler kind).sr)
    fun f hf => by cases f <;> first | rfl | exact absurd ‹_› hf).setRun .running

theorem countDown (h : Effect s t regs flags run record ws) (hr : regAcc ∈ regs)
    (hflags : t.cfg.stringFlagsFromCount = true → [Flag.c, .v, .n, .z] ⊆ flags) :
    Effect s t.countDown regs flags run record ws := by
  refine (h.setSR fun f hf => ?_).writeReg hr _
  split
  · rename_i hcount
    exact afterSub_keeps _ _ _ _ f fun hmem => hf (hflags hcount hmem)
  · rfl

theorem repeatWhileCount (h : Effect s t regs flags run record ws) :
    Effect s t.repeatWhileCount regs flags run record ws := by
  rcases t.repeatWhileCount_cases with ⟨-, e⟩ | ⟨-, e⟩ <;> rw [e]
  · exact h.advance 1
  · exact h

theorem compareUnlessOut (h : Effect s t regs flags run record ws) (hflags : [Flag.c, .n, .z] ⊆ flags)
    (t1 t2 : Word) : Effect s (t.compareUnlessOut t1 t2) regs flags run record ws := by
  have hcompare : ∀ f, f ∉ flags → (t.sr.afterCompare t.cfg t1 t2).get f = t.sr.get f := fun f hf =>
    afterCompare_keeps _ _ _ _ f fun hmem => hf (hflags hmem)
  rcases t.compareUnlessOut_cases t1 t2 with ⟨-, e⟩ | ⟨-, -, e⟩ | ⟨-, -, e⟩ <;> rw [e]
  · exact h.advance 1
  · exact h.setSR hcompare
  · exact (h.setSR hcompare).advance 1

/-! ### What an effect leaves alone -/

theorem loadByte_outside (h : Effect s t regs flags run record ws) {span : Option (Word × Nat)} (hs : Spans ws span)
    {x : Word} (hx : ∀ a n, span = some (a, n) → n ≤ (x - a).toNat) : t.loadByte x = s.loadByte x := by
  rw [State.loadByte, h.mem]
  exact byteAt_storeAll_outside _ (hs.outside hx)

/-- A byte that has changed is one of those recorded (`20_memory.md` R70). -/
theorem mem_written_of_changed (h : Effect s t regs flags run record ws) {x : Nat}
    (hx : byteAt t.mem x ≠ byteAt s.mem x) : x ∈ t.written := by
  rw [h.written, mem_recordAll]
  by_contra hnot
  obtain ⟨-, hout⟩ := not_or.1 hnot
  rw [h.mem] at hx
  exact hx (byteAt_storeAll_outside _ fun w hw e => hout ⟨w, hw, e⟩)

theorem mem_written_iff (h : Effect s t regs flags run record ws) {base : Word} {n : Nat}
    (hs : Spans ws (some (base, n))) (x : Nat) :
    x ∈ t.written ↔ x ∈ record ∨ ∃ k, k < n ∧ x = (base + BitVec.ofNat 52 k).toNat := by
  rw [h.written, mem_recordAll]
  refine or_congr_right ⟨?_, ?_⟩
  · rintro ⟨w, hw, rfl⟩
    obtain ⟨k, hk, e⟩ := (spans_some.1 hs w.1).1 ⟨w, hw, rfl⟩
    exact ⟨k, hk, e ▸ rfl⟩
  · rintro ⟨k, hk, rfl⟩
    obtain ⟨w, hw, e⟩ := (spans_some.1 hs _).2 ⟨k, hk, rfl⟩
    exact ⟨w, hw, e ▸ rfl⟩

theorem frame (h : Effect s t regs flags s.run s.written []) : Frame s t regs flags :=
  ⟨h.regs, h.flags, ⟨fun a => by rw [h.mem]; rfl, h.written⟩, h.run, h.rest⟩

theorem storesOnly (h : Effect s t regs flags run s.written ws) {base : Word} {n : Nat}
    (hs : Spans ws (some (base, n))) : StoresOnly s t base n :=
  ⟨fun a ha => h.loadByte_outside hs (by simpa using ha), h.mem_written_iff hs⟩

theorem storeFrame (h : Effect s t regs flags s.run s.written ws) {base : Word} {n : Nat}
    (hs : Spans ws (some (base, n))) : StoreFrame s t regs flags base n :=
  ⟨h.regs, h.flags, h.storesOnly hs, h.run, h.rest⟩

/-- An effect keeps what is canonical about memories and record, and the slot of R0 (`State.Inv`). -/
theorem inv (h : Effect s t regs flags run record ws) (hs : s.Inv) (hrecord : record.wf = true) : t.Inv where
  memory := h.mem ▸ wf_storeAll hs.memory ws
  codeMemory := h.rest.2.1 ▸ hs.codeMemory
  stored := h.written ▸ wf_recordAll hrecord ws
  regZero := h.regZero.trans hs.regZero
  layout := h.rest.1 ▸ hs.layout

end

end Effect

/-! ## The effect of each shared operation -/

section
variable (s : State)

/-- A result and its flags. -/
theorem finishResult_effect (rt : RegNo) (r : Word) (len : Nat) {sr : StatusRegister} {flags : List Flag}
    (hsr : ∀ f, f ∉ flags → sr.get f = s.sr.get f) :
    Effect s (((s.setSR sr).writeReg rt r).advance len) [rt] flags s.run s.written [] :=
  (((Effect.refl s [rt] flags).setSR hsr).writeReg List.mem_cons_self r).advance len

/-- Flags and no result. -/
theorem setFlags_effect (len : Nat) {sr : StatusRegister} {flags : List Flag}
    (hsr : ∀ f, f ∉ flags → sr.get f = s.sr.get f) :
    Effect s ((s.setSR sr).advance len) [] flags s.run s.written [] :=
  ((Effect.refl s [] flags).setSR hsr).advance len

/-- A transfer of control. -/
theorem setPc_effect (target : Word) : Effect s (s.setPc target) [] [] s.run s.written [] :=
  (Effect.refl s [] []).setPc target

/-- A word store with the flags of `cfg.st_writes_nz` (`90_conflicts.md` C4). -/
theorem storeFrom_effect (ea v : Word) (len : Nat) :
    Effect s (((s.storeWord ea v).setSR (if s.cfg.stWritesNz then s.sr.setNZ v else s.sr)).advance len) []
      (if s.cfg.stWritesNz then [.n, .z] else []) s.run s.written (wordStores s.cfg.dataLittleEndian ea v) := by
  refine (((Effect.refl s [] _).storeWord ea v).setSR fun f hf => ?_).advance len
  split at hf
  · rw [if_pos ‹_›]
    exact setNZ_keeps _ _ f hf
  · rw [if_neg ‹_›]
    rfl

theorem push_effect (v : Word) : Effect s (s.push v) [regSp] [] s.run s.written
    (wordStores s.cfg.dataLittleEndian (s.sp - 4#52) v) :=
  (Effect.refl s [regSp] []).push List.mem_cons_self v

/-- A trap entry that pushes (`60_exceptions.md` R320). -/
theorem pushingTrap_effect (kind : TrapKind) (ret : Word) :
    Effect s (((s.startRecord kind).pushTrapFrame ret).enterHandler kind) [regSp] [.i, .b] .running
      (if kind = .rst then [] else s.written)
      (wordStores s.cfg.dataLittleEndian (s.sp - 4#52) ret ++
        wordStores s.cfg.dataLittleEndian (s.sp - 8#52) (packSR s.cfg.srPos s.sr)) := by
  have hpush := ((Effect.startRecord s kind [regSp] [.i, .b]).push List.mem_cons_self ret).push List.mem_cons_self
    (packSR s.cfg.srPos s.sr)
  simp only [State.push_cfg, State.startRecord_cfg, State.sp_push, State.sp_startRecord, sub_four_four] at hpush
  exact hpush.enterHandler (by simp) (by simp) kind

/-- A trap entry that pushes nothing. -/
theorem plainTrap_effect (kind : TrapKind) : Effect s ((s.startRecord kind).enterHandler kind) [] [.i, .b] .running
    (if kind = .rst then [] else s.written) [] :=
  (Effect.startRecord s kind [] [.i, .b]).enterHandler (by simp) (by simp) kind

/-- The flags that one element of a move or a fill may write (`90_conflicts.md` C11). -/
def countFlagsOf (cfg : Config) : List Flag :=
  if cfg.stringFlagsFromCount then [.c, .v, .n, .z] else []

theorem subset_countFlagsOf {cfg : Config} (h : cfg.stringFlagsFromCount = true) :
    [Flag.c, .v, .n, .z] ⊆ countFlagsOf cfg := by
  simp [countFlagsOf, h]

theorem moveElement_effect (e : Element) (y v x' y' : Word) :
    Effect s (((s.storeElement e y v).writeReg regX x').writeReg regY y').countDown.repeatWhileCount
      [regAcc, regX, regY] (countFlagsOf s.cfg) s.run s.written (elementStores s.cfg.dataLittleEndian e y v) :=
  (((((Effect.refl s _ _).storeElement e y v).writeReg (by simp) _).writeReg (by simp) _).countDown (by simp)
    (by simpa using subset_countFlagsOf)).repeatWhileCount

theorem fillElement_effect (e : Element) (y v y' : Word) :
    Effect s ((s.storeElement e y v).writeReg regY y').countDown.repeatWhileCount [regAcc, regY]
      (countFlagsOf s.cfg) s.run s.written (elementStores s.cfg.dataLittleEndian e y v) :=
  ((((Effect.refl s _ _).storeElement e y v).writeReg (by simp) _).countDown (by simp)
    (by simpa using subset_countFlagsOf)).repeatWhileCount

theorem compareElement_effect (t1 t2 x' y' : Word) :
    Effect s (((s.writeReg regX x').writeReg regY y').countDown.compareUnlessOut t1 t2) [regAcc, regX, regY]
      (if s.cfg.stringFlagsFromCount then [.c, .v, .n, .z] else [.c, .n, .z]) s.run s.written [] := by
  refine ((((Effect.refl s _ _).writeReg (by simp) _).writeReg (by simp) _).countDown (by simp)
    fun hcount => ?_).compareUnlessOut ?_ _ _
  · simp only [State.writeReg_cfg] at hcount
    simp [hcount]
  · split <;> simp

end

/-! ## The effect of every instruction -/

/-- Within a list of registers and flags, and with stores that are a span. -/
def Footprint (s t : State) (regs : List RegNo) (flags : List Flag) (run : RunState) (record : AddressSet)
    (span : Option (Word × Nat)) : Prop :=
  ∃ ws, Effect s t regs flags run record ws ∧ Spans ws span

theorem Effect.footprint {s t : State} {regs : List RegNo} {flags : List Flag} {run : RunState}
    {record : AddressSet} (h : Effect s t regs flags run record []) : Footprint s t regs flags run record none :=
  ⟨[], h, spans_nil⟩

/-- The run state an instruction leaves (`10_state.md` R38, `43_flow_control.md` R189, R190). -/
def runAfter (i : Instr) (run : RunState) : RunState :=
  match i with
  | .wai => .waiting
  | .stp => .stopped
  | .rst | .nmi | .irq | .brk _ => .running
  | _ => run

/-- The record an instruction adds its stores to: RST starts it afresh (`20_memory.md` R70, log entry 43). -/
def recordBefore (i : Instr) (record : AddressSet) : AddressSet :=
  if i = .rst then [] else record

/-- Everything taking a trap can change. -/
theorem takeTrap_footprint {kind : TrapKind} {ret : Word} {s t : State} (h : takeTrap kind ret s = .next t) :
    Footprint s t (if trapPushes s.cfg kind then [regSp] else []) [.i, .b] .running
      (if kind = .rst then [] else s.written) (if trapPushes s.cfg kind then some (s.sp - 8#52, 8) else none) := by
  obtain ⟨-, ⟨hpush, -, -, rfl⟩ | ⟨hpush, rfl⟩⟩ := takeTrap_eq_next.1 h <;> simp only [hpush]
  · exact ⟨_, pushingTrap_effect s kind ret, spans_trapFrame _ _ _ _⟩
  · exact (plainTrap_effect s kind).footprint

/-- Everything PFI can do (`43_flow_control.md` R187). -/
theorem execPfi_eq_next {s t : State} : execPfi s = .next t ↔ s.cfg.pfi = .nop ∧ s.advance 1 = t := by
  unfold execPfi
  cases s.cfg.pfi <;> simp

theorem mem_allFlags (f : Flag) : f ∈ [Flag.c, .z, .i, .d, .u, .v, .n, .b] := by
  cases f <;> decide

/-- Everything an instruction can change: one case per operation it is made of. -/
theorem exec_footprint {i : Instr} {s t : State} (h : exec i s = .next t) :
    Footprint s t (regsWritten s.cfg i) (flagsWritten s.cfg i) (runAfter i s.run) (recordBefore i s.written)
      (storeSpan s i) := by
  cases i
  case addRR | addI9 | addI23 | addI36 =>
    obtain rfl := next_inj.1 h
    exact (finishResult_effect s _ _ _ (afterAdd_keeps _ _ _)).footprint
  case subRR | subI9 | subI23 | subI36 =>
    obtain rfl := next_inj.1 h
    exact (finishResult_effect s _ _ _ (afterSub_keeps _ _ _ _)).footprint
  case andRR | andI9 | andI23 | andI36 | orRR | orI9 | orI23 | orI36 | eorRR | eorI9 | eorI23 | eorI36 =>
    obtain rfl := next_inj.1 h
    exact (finishResult_effect s _ _ _ (setNZ_keeps _ _)).footprint
  case aslRR | aslI6 | rolRR | rolI6 | lsrRR | lsrI6 | rorRR | rorI6 =>
    obtain rfl := next_inj.1 h
    exact (finishResult_effect s _ _ _ (afterShift_keeps _ _ _)).footprint
  case cmpRR | cmpI9 | cmpI23 | cmpI36 =>
    obtain rfl := next_inj.1 h
    exact (setFlags_effect s _ (afterCompare_keeps _ _ _ _)).footprint
  case bitRR | bitI9 | bitI23 | bitI36 =>
    obtain rfl := next_inj.1 h
    exact (setFlags_effect s _ (afterBit_keeps _ _)).footprint
  case sep | rep =>
    obtain rfl := next_inj.1 h
    exact (setFlags_effect s _ (writeMasked_keeps _ _ _ _)).footprint
  case ldRR | ldD9 | ldD23 | ldD36 =>
    obtain ⟨-, rfl⟩ := loadInto_eq_next.1 h
    exact (finishResult_effect s _ _ _ (setNZ_keeps _ _)).footprint
  case ldb =>
    obtain ⟨-, h⟩ := unlessRefused_eq_next.1 h
    obtain rfl := next_inj.1 h
    exact (finishResult_effect s _ _ _ (setNZ_keeps _ _)).footprint
  case stRR | stD9 | stD23 | stD36 =>
    obtain ⟨-, rfl⟩ := storeFrom_eq_next.1 h
    exact ⟨_, storeFrom_effect s _ _ _, spans_wordStores _ _ _⟩
  case stb =>
    obtain ⟨-, h⟩ := unlessRefused_eq_next.1 h
    obtain rfl := next_inj.1 h
    exact ⟨_, ((Effect.refl s [] []).storeByte _ _).advance 4, spans_byte _ _⟩
  case jmpAbs | jmpReg | braD4 | braD17 | nop =>
    obtain rfl := next_inj.1 h
    exact (setPc_effect s _).footprint
  case beqD4 | bneD4 | bplD4 | bmiD4 | bvsD4 | bvcD4 | bcsD4 | bccD4 | beqD17 | bneD17 | bplD17 | bmiD17 | bvsD17
      | bvcD17 | bcsD17 | bccD17 =>
    obtain rfl := next_inj.1 ((branchIf_eq_next _ _ _ _).symm.trans h)
    exact (setPc_effect s _).footprint
  case jsrAbs | jsrReg =>
    obtain ⟨-, rfl⟩ := callSubroutine_eq_next.1 h
    exact ⟨_, (push_effect s _).setPc _, spans_wordStores _ _ _⟩
  case rts =>
    obtain ⟨-, h⟩ := unlessRefused_eq_next.1 h
    obtain rfl := next_inj.1 h
    exact (((Effect.refl s [regSp] []).dropWord (by simp)).setPc _).footprint
  case rti =>
    obtain ⟨-, -, rfl⟩ := returnFromTrap_eq_next.1 h
    exact (((((Effect.refl s [regSp] [.c, .z, .i, .d, .u, .v, .n, .b]).setSR fun f hf => absurd (mem_allFlags f) hf).dropWord
      (by simp)).dropWord (by simp)).setPc _).footprint
  case pfi =>
    obtain ⟨-, rfl⟩ := execPfi_eq_next.1 h
    exact (setPc_effect s _).footprint
  case wai | stp =>
    obtain rfl := next_inj.1 h
    exact ((setPc_effect s _).setRun _).footprint
  case nmi => exact takeTrap_footprint (kind := .nmi) h
  case irq => exact takeTrap_footprint (kind := .irq) h
  case brk => exact takeTrap_footprint (kind := .brk) h
  case rst => exact takeTrap_footprint (kind := .rst) h
  case php | psh =>
    obtain ⟨-, h⟩ := unlessRefused_eq_next.1 h
    obtain rfl := next_inj.1 h
    exact ⟨_, (push_effect s _).advance 1, spans_wordStores _ _ _⟩
  case plp =>
    obtain ⟨-, h⟩ := unlessRefused_eq_next.1 h
    obtain rfl := next_inj.1 h
    exact ((((Effect.refl s [regSp] [.c, .z, .i, .d, .u, .v, .n, .b]).setSR fun f hf => absurd (mem_allFlags f) hf).dropWord
      (by simp)).advance 1).footprint
  case pop =>
    obtain ⟨-, h⟩ := unlessRefused_eq_next.1 h
    obtain rfl := next_inj.1 h
    exact (((((Effect.refl s [regSp, _] _).setSR (setNZ_keeps _ _)).dropWord
      (by simp)).writeReg (by simp) _).advance 1).footprint
  case mvn | mvp | mvnb | mvpb =>
    obtain ⟨-, -, rfl⟩ := moveElement_eq_next.1 h
    exact ⟨_, moveElement_effect s _ _ _ _ _, spans_elementStores _ _ _ _⟩
  case sts | stsb =>
    obtain ⟨-, rfl⟩ := fillElement_eq_next.1 h
    exact ⟨_, fillElement_effect s _ _ _ _, spans_elementStores _ _ _ _⟩
  case cmps | cmpsb =>
    obtain ⟨-, -, rfl⟩ := compareElement_eq_next.1 h
    exact (compareElement_effect s _ _ _ _).footprint

end Sys2Proof.Machine
end

section
/-! PROOFS. Words in memory and operands on numbers (`20_memory.md` R53, R54, `30_encoding.md` R93). -/

namespace Sys2Proof.Machine

/-! ## Words and their bytes -/

theorem toNat_wordByte (cfg : Config) (v : Word) {k : Nat} (hk : k < 4) :
    (wordByte cfg.dataLittleEndian v k).toNat = v.toNat / 2 ^ (13 * significance cfg k) % 2 ^ 13 := by
  unfold wordByte significance
  split
  · rw [BitVec.extractLsb'_toNat, Nat.shiftRight_eq_div_pow]
  · rw [BitVec.extractLsb'_toNat, Nat.shiftRight_eq_div_pow, show 39 - 13 * k = 13 * (3 - k) by omega]

/-- Byte `k` of the word at an address (`20_memory.md` R53). -/
theorem State.loadByte_eq_wordByte (s : State) (a : Word) {k : Nat} (hk : k < 4) :
    s.loadByte (a + BitVec.ofNat 52 k) = wordByte s.cfg.dataLittleEndian (s.loadWord a) k := by
  obtain ⟨h0, h1, h2, h3⟩ := wordByte_joinWord s.cfg.dataLittleEndian (s.loadByte a) (s.loadByte (a + 1#52))
    (s.loadByte (a + 2#52)) (s.loadByte (a + 3#52))
  rw [State.loadWord_eq]
  match k, hk with
  | 0, _ => rw [h0, BitVec.add_zero]
  | 1, _ => exact h1.symm
  | 2, _ => exact h2.symm
  | 3, _ => exact h3.symm

/-- The bytes at an address hold the word that is read there. -/
theorem State.holdsWord_loadWord (s : State) (a : Word) : HoldsWord s a (s.loadWord a).toNat := fun _ hk => by
  rw [s.loadByte_eq_wordByte a hk, toNat_wordByte _ _ hk]

theorem holdsWord_of_loadWord {t : State} {a v : Word} (h : t.loadWord a = v) : HoldsWord t a v.toNat :=
  h ▸ t.holdsWord_loadWord a

/-- The word read is the sum of its bytes by their significance (`20_memory.md` R53). -/
theorem State.toNat_loadWord (s : State) (a : Word) : (s.loadWord a).toNat = memWord s a := by
  have hholds := s.holdsWord_loadWord a
  have hlt := (s.loadWord a).isLt
  simp only [memWord, show List.range 4 = [0, 1, 2, 3] from rfl, List.map_cons, List.map_nil, List.sum_cons,
    List.sum_nil, hholds 0 (by decide), hholds 1 (by decide), hholds 2 (by decide), hholds 3 (by decide)]
  unfold significance
  cases s.cfg.dataLittleEndian <;> simp <;> omega

/-- States that read alike in four bytes, in the same byte order, read the same word there. -/
theorem State.loadWord_congr {s t : State} {a b : Word} (hcfg : t.cfg = s.cfg)
    (h : ∀ k < 4, t.loadByte (a + BitVec.ofNat 52 k) = s.loadByte (b + BitVec.ofNat 52 k)) :
    t.loadWord a = s.loadWord b := by
  have h0 := h 0 (by decide)
  simp only [BitVec.add_zero] at h0
  rw [State.loadWord_eq, State.loadWord_eq, hcfg, h0]
  exact congr (congr (congrArg _ (h 1 (by decide))) (h 2 (by decide))) (h 3 (by decide))

/-- Settles O12: what is stored is read back, byte by byte and as a sum, and the effect of the store is its span. -/
theorem wordsAreFourBytes : Obligations.WordsAreFourBytes := by
  unfold Obligations.WordsAreFourBytes
  intro s a v
  have hread := s.loadWord_storeWord_same a v
  refine ⟨s.toNat_loadWord a, holdsWord_of_loadWord hread, ?_, ?_⟩
  · rw [← State.toNat_loadWord, hread]
  · exact ((Effect.refl s [] []).storeWord a v).storesOnly (spans_wordStores _ _ _)

/-! ## Addresses and registers -/

/-- Settles O13. -/
theorem effectiveAddresses : Obligations.EffectiveAddresses := by
  unfold Obligations.EffectiveAddresses
  intro s ra rb d9 d23 d36
  have base : ∀ {len : Nat}, len ≤ 52 → ∀ d : BitVec len, (s.baseAddress ra d).toNat =
      ((s.readReg ra).toNat + extendedValue s.cfg.immExt d) % 2 ^ 52 := fun hlen d => by
    rw [State.baseAddress, BitVec.toNat_add, toNat_immediate hlen]
  exact ⟨BitVec.toNat_add _ _, base (by decide) d9, base (by decide) d23, base (by decide) d36⟩

theorem State.regHolds_writeReg (s : State) (r : RegNo) (v : Word) : RegHolds (s.writeReg r v) r v.toNat := by
  rw [RegHolds, State.readReg_writeReg]
  split <;> simp

end Sys2Proof.Machine
end

section
/-! PROOFS. Arithmetic and logic (`40_arith_logic.md`): each shared operation once, for two words; the four forms of an
instruction differ in the second operand and the length only. -/

namespace Sys2Proof.Machine

section
variable (s : State) (rt : RegNo) (a b : Word) (len : Nat)

/-- A result written with its flags: the register, the flags, pc and the frame. -/
theorem finishResult_done {r : Word} {sr : StatusRegister} {flags : List Flag}
    (hsr : ∀ f, f ∉ flags → sr.get f = s.sr.get f) :
    ∃ t, finishResult rt r sr len s = .next t ∧ RegHolds t rt r.toNat ∧ t.sr = sr ∧ PcAdvanced s t len ∧
      Frame s t [rt] flags :=
  ⟨_, rfl, State.regHolds_writeReg _ rt r, State.writeReg_sr _ _ _,
    pcAdvanced_of_eq (by simp), (finishResult_effect s rt r len hsr).frame⟩

/-- Flags written alone. -/
theorem setFlags_done {sr : StatusRegister} {flags : List Flag} (hsr : ∀ f, f ∉ flags → sr.get f = s.sr.get f) :
    PcAdvanced s ((s.setSR sr).advance len) len ∧ Frame s ((s.setSR sr).advance len) [] flags :=
  ⟨pcAdvanced_of_eq rfl, (setFlags_effect s len hsr).frame⟩

theorem addInto_done : ∃ t, addInto rt a b len s = .next t ∧ AddDone s t rt a.toNat b.toNat len := by
  obtain ⟨t, ht, hreg, hsr, hpc, hframe⟩ :=
    finishResult_done s rt len (r := a + b) (afterAdd_keeps s.sr a b)
  rw [BitVec.toNat_add] at hreg
  refine ⟨t, ht, hreg, ?_, ?_, ?_, hpc, hframe⟩ <;> rw [hsr]
  · rw [← BitVec.toNat_add]
    exact flagsNZOf_setNZ s.sr (a + b)
  · exact decide_eq_true_iff
  · exact overflow_add a b

theorem flagsOfCompare_afterCompare (sr : StatusRegister) (cfg : Config) :
    FlagsOfCompare cfg (sr.afterCompare cfg a b) a.toNat b.toNat :=
  ⟨subCarry_eq_true cfg a b, by rw [← difference_toNat]; exact flagsNZOf_setNZ sr (a - b)⟩

theorem flagsOfSub_afterSub (sr : StatusRegister) (cfg : Config) :
    FlagsOfSub cfg (sr.afterSub cfg a b) a.toNat b.toNat :=
  ⟨flagsOfCompare_afterCompare a b sr cfg, overflow_sub a b⟩

theorem subInto_done : ∃ t, subInto rt a b len s = .next t ∧ SubDone s t rt a.toNat b.toNat len := by
  obtain ⟨t, ht, hreg, hsr, hpc, hframe⟩ :=
    finishResult_done s rt len (r := a - b) (afterSub_keeps s.sr s.cfg a b)
  rw [difference_toNat] at hreg
  exact ⟨t, ht, hreg, hsr ▸ flagsOfSub_afterSub a b s.sr s.cfg, hpc, hframe⟩

theorem compareWords_done : ∃ t, compareWords a b len s = .next t ∧ CmpDone s t a.toNat b.toNat len :=
  ⟨_, rfl, flagsOfCompare_afterCompare a b s.sr s.cfg, setFlags_done s len (afterCompare_keeps s.sr s.cfg a b)⟩

theorem bitTest_done : ∃ t, bitTest a b len s = .next t ∧ BitDone s t a.toNat b.toNat len := by
  refine ⟨_, rfl, ?_, ?_, setFlags_done s len (afterBit_keeps s.sr (a &&& b))⟩ <;> rw [← BitVec.toNat_and]
  · exact flagsNZOf_setNZ s.sr (a &&& b)
  · exact (BitVec.testBit_toNat _).symm

/-- A value, n and z: AND, OR, EOR, and the loads. -/
theorem finishResult_value (r : Word) :
    ∃ t, finishResult rt r (s.sr.setNZ r) len s = .next t ∧ ValueDone s t rt r.toNat len := by
  obtain ⟨t, ht, hreg, hsr, hpc, hframe⟩ := finishResult_done s rt len (r := r) (setNZ_keeps s.sr r)
  exact ⟨t, ht, hreg, hsr ▸ flagsNZOf_setNZ s.sr r, hpc, hframe⟩

theorem logicInto_and_done :
    ∃ t, logicInto rt (a &&& b) len s = .next t ∧ ValueDone s t rt (a.toNat &&& b.toNat) len := by
  rw [← BitVec.toNat_and]
  exact finishResult_value s rt len _

theorem logicInto_or_done :
    ∃ t, logicInto rt (a ||| b) len s = .next t ∧ ValueDone s t rt (a.toNat ||| b.toNat) len := by
  rw [← BitVec.toNat_or]
  exact finishResult_value s rt len _

theorem logicInto_eor_done :
    ∃ t, logicInto rt (a ^^^ b) len s = .next t ∧ ValueDone s t rt (a.toNat ^^^ b.toNat) len := by
  rw [← BitVec.toNat_xor]
  exact finishResult_value s rt len _

end

/-- The immediates of the three widths as the numbers of the statements (`30_encoding.md` R93). -/
theorem extendedValue_eq_immediates (cfg : Config) (i9 : BitVec 9) (i23 : BitVec 23) (i36 : BitVec 36) :
    extendedValue cfg.immExt i9 = (immediate cfg i9).toNat ∧ extendedValue cfg.immExt i23 = (immediate cfg i23).toNat ∧
      extendedValue cfg.immExt i36 = (immediate cfg i36).toNat :=
  ⟨(toNat_immediate (by decide) cfg i9).symm, (toNat_immediate (by decide) cfg i23).symm,
    (toNat_immediate (by decide) cfg i36).symm⟩

/-- Settles O14: each form is one addition. -/
theorem addAddsAndSetsFlags : Obligations.AddAddsAndSetsFlags := by
  unfold Obligations.AddAddsAndSetsFlags
  intro s rt ra rb i9 i23 i36
  obtain ⟨h9, h23, h36⟩ := extendedValue_eq_immediates s.cfg i9 i23 i36
  rw [h9, h23, h36]
  exact ⟨addInto_done s rt _ _ 2, addInto_done s rt _ _ 2, addInto_done s rt _ _ 3, addInto_done s rt _ _ 4⟩

/-- Settles O15: each form is one subtraction. -/
theorem subSubtractsAndSetsFlags : Obligations.SubSubtractsAndSetsFlags := by
  unfold Obligations.SubSubtractsAndSetsFlags
  intro s rt ra rb i9 i23 i36 _
  obtain ⟨h9, h23, h36⟩ := extendedValue_eq_immediates s.cfg i9 i23 i36
  rw [h9, h23, h36]
  exact ⟨subInto_done s rt _ _ 2, subInto_done s rt _ _ 2, subInto_done s rt _ _ 3, subInto_done s rt _ _ 4⟩

/-- Settles O16: each form is one comparison. -/
theorem cmpComparesAndKeepsV : Obligations.CmpComparesAndKeepsV := by
  unfold Obligations.CmpComparesAndKeepsV
  intro s ra rb i9 i23 i36
  obtain ⟨h9, h23, h36⟩ := extendedValue_eq_immediates s.cfg i9 i23 i36
  rw [h9, h23, h36]
  exact ⟨compareWords_done s _ _ 2, compareWords_done s _ _ 2, compareWords_done s _ _ 3, compareWords_done s _ _ 4⟩

/-- Settles O17: each form is one bit test. -/
theorem bitTestsTheAnd : Obligations.BitTestsTheAnd := by
  unfold Obligations.BitTestsTheAnd
  intro s ra rb i9 i23 i36
  obtain ⟨h9, h23, h36⟩ := extendedValue_eq_immediates s.cfg i9 i23 i36
  rw [h9, h23, h36]
  exact ⟨bitTest_done s _ _ 2, bitTest_done s _ _ 2, bitTest_done s _ _ 3, bitTest_done s _ _ 4⟩

/-- Settles O18: each form writes one conjunction. -/
theorem andWritesTheConjunction : Obligations.AndWritesTheConjunction := by
  unfold Obligations.AndWritesTheConjunction
  intro s rt ra rb i9 i23 i36 _
  obtain ⟨h9, h23, h36⟩ := extendedValue_eq_immediates s.cfg i9 i23 i36
  rw [h9, h23, h36]
  have and := logicInto_and_done s rt
  exact ⟨and _ _ 2, and _ _ 2, and _ _ 3, and _ _ 4⟩

/-- Settles O19: each form writes one disjunction, inclusive or exclusive. -/
theorem orAndEorWriteTheirResult : Obligations.OrAndEorWriteTheirResult := by
  unfold Obligations.OrAndEorWriteTheirResult
  intro s rt ra rb i9 i23 i36
  obtain ⟨h9, h23, h36⟩ := extendedValue_eq_immediates s.cfg i9 i23 i36
  rw [h9, h23, h36]
  have or := logicInto_or_done s rt
  have eor := logicInto_eor_done s rt
  exact ⟨or _ _ 2, or _ _ 2, or _ _ 3, or _ _ 4, eor _ _ 2, eor _ _ 2, eor _ _ 3, eor _ _ 4⟩

end Sys2Proof.Machine
end

section
/-! PROOFS. Loads and stores (`41_load_store.md`), and the refusal of accesses that the configuration does not allow
(`20_memory.md` R57, R65). -/

namespace Sys2Proof.Machine

/-! ## Loads -/

section
variable (s : State) (rt : RegNo) (ea : Word) (len : Nat)

/-- LD is a result written where the access is allowed (`41_load_store.md` R142). -/
theorem loadInto_of_accessible (h : WordAccessible s.cfg ea) :
    loadInto rt ea len s = finishResult rt (s.loadWord ea) (s.sr.setNZ (s.loadWord ea)) len s := by
  rw [loadInto, (wordRefusal_eq_none _ _).2 h]
  rfl

theorem loadInto_done (h : WordAccessible s.cfg ea) :
    ∃ t, loadInto rt ea len s = .next t ∧ ValueDone s t rt (memWord s ea) len := by
  rw [loadInto_of_accessible s rt ea len h, ← State.toNat_loadWord]
  exact finishResult_value s rt len _

/-- LDB is a result written where the access is allowed (`41_load_store.md` R143). -/
theorem execLdb_of_accessible {ra : RegNo} {disp : BitVec 36} (h : ByteAccessible s.cfg (s.baseAddress ra disp)) :
    execLdb rt ra disp s = finishResult rt (extendByte s.cfg (s.loadByte (s.baseAddress ra disp)))
      (s.sr.setNZ (extendByte s.cfg (s.loadByte (s.baseAddress ra disp)))) 4 s := by
  rw [execLdb, (byteRefusal_eq_none _ _).2 h]
  rfl

theorem toNat_extendByte (cfg : Config) (v : Byte) : (extendByte cfg v).toNat = extendedValue cfg.ldbExt v :=
  toNat_extendField (by decide) _ v

/-- Extending a byte keeps its 13 bits, whatever the extension (`41_load_store.md` R143). -/
theorem toNat_extendByte_mod (cfg : Config) (v : Byte) : (extendByte cfg v).toNat % 2 ^ 13 = v.toNat := by
  have hlt := v.isLt
  rw [toNat_extendByte]
  unfold extendedValue
  split
  · split <;> omega
  · omega

end

/-- Settles O20: each form is one load. -/
theorem loadWordLoads : Obligations.LoadWordLoads := by
  unfold Obligations.LoadWordLoads
  intro s rt ra rb d9 d23 d36
  exact ⟨loadInto_done s rt _ 2, loadInto_done s rt _ 2, loadInto_done s rt _ 3, loadInto_done s rt _ 4⟩

/-! ## Stores -/

section
variable (s : State) (rs : RegNo) (ea : Word) (len : Nat)

theorem storeFrom_done (h : WordAccessible s.cfg ea) :
    ∃ t, storeFrom rs ea len s = .next t ∧ StoreDone s t rs ea len := by
  refine ⟨_, storeFrom_eq_next.2 ⟨(wordRefusal_eq_none _ _).2 h, rfl⟩, ?_, pcAdvanced_of_eq rfl,
    (storeFrom_effect s ea _ len).storeFrame (spans_wordStores _ _ _), fun hnz => ?_⟩
  · refine holdsWord_of_loadWord ?_
    rw [State.loadWord_advance, State.loadWord_setSR, State.loadWord_storeWord_same]
  · rw [State.advance_sr, State.setSR_sr, if_pos hnz]
    exact flagsNZOf_setNZ _ _

end

/-- Settles O22: each form is one store. -/
theorem storeWordStores : Obligations.StoreWordStores := by
  unfold Obligations.StoreWordStores
  intro s rs ra rb d9 d23 d36
  exact ⟨storeFrom_done s rs _ 2, storeFrom_done s rs _ 2, storeFrom_done s rs _ 3, storeFrom_done s rs _ 4⟩

/-- The low byte of a word as a number. -/
theorem toNat_lowByte (v : Word) : (v.extractLsb' 0 13).toNat = v.toNat % 2 ^ 13 := by
  rw [BitVec.extractLsb'_toNat, Nat.shiftRight_zero]

/-- Settles O21. -/
theorem bytesLoadAndStore : Obligations.BytesLoadAndStore := by
  unfold Obligations.BytesLoadAndStore
  intro s r ra d36 haccess
  constructor
  · obtain ⟨t, ht, hvalue⟩ :=
      finishResult_value s r 4 (extendByte s.cfg (s.loadByte (s.baseAddress ra d36)))
    rw [toNat_extendByte] at hvalue
    exact ⟨t, (execLdb_of_accessible s r haccess).trans ht, hvalue⟩
  · refine ⟨(s.storeByte (s.baseAddress ra d36) ((s.readReg r).extractLsb' 0 13)).advance 4, ?_, ?_,
      pcAdvanced_of_eq rfl, ?_⟩
    · exact unlessRefused_eq_next.2 ⟨(byteRefusal_eq_none _ _).2 haccess, rfl⟩
    · rw [State.loadByte_advance, State.loadByte_storeByte, if_pos rfl, toNat_lowByte]
    · exact (((Effect.refl s [] []).storeByte _ _).advance 4).storeFrame (spans_byte _ _)

/-! ## A load after a store -/

/-- The state after a store reads the stored word, in the configuration and with the registers it had. -/
theorem storeFrom_reads {rs : RegNo} {ea : Word} {len : Nat} {s t : State} (h : storeFrom rs ea len s = .next t) :
    WordAccessible t.cfg ea ∧ t.loadWord ea = s.readReg rs ∧ t.cfg = s.cfg ∧ t.readReg = s.readReg := by
  obtain ⟨haccess, rfl⟩ := storeFrom_eq_next.1 h
  refine ⟨?_, ?_, rfl, funext fun r => by simp⟩
  · rw [State.advance_cfg, State.setSR_cfg, State.storeWord_cfg]
    exact (wordRefusal_eq_none _ _).1 haccess
  · rw [State.loadWord_advance, State.loadWord_setSR, State.loadWord_storeWord_same]

theorem loadInto_reads {rt : RegNo} {ea v : Word} (len : Nat) {t : State} (hrt : rt ≠ 0#5)
    (haccess : WordAccessible t.cfg ea) (hword : t.loadWord ea = v) :
    ∃ u, loadInto rt ea len t = .next u ∧ u.readReg rt = v := by
  refine ⟨_, loadInto_of_accessible t rt ea len haccess, ?_⟩
  rw [State.readReg_advance, State.readReg_writeReg_same _ _ _ hrt, hword]

/-- LDB reads byte `k` of a word (`20_memory.md` R55). -/
theorem execLdb_reads {rt rc : RegNo} {e : BitVec 36} {ea : Word} {t : State} (hrt : rt ≠ 0#5)
    (haccess : WordAccessible t.cfg ea) {k : Nat} (hk : k < 4) (hbase : t.baseAddress rc e = ea + BitVec.ofNat 52 k) :
    ∃ u, exec (.ldb rt rc e) t = .next u ∧
      (u.readReg rt).toNat % 2 ^ 13 = (t.loadWord ea).toNat / 2 ^ (13 * significance t.cfg k) % 2 ^ 13 := by
  refine ⟨_, execLdb_of_accessible t rt (hbase ▸ haccess.1 k hk), ?_⟩
  rw [State.readReg_advance, State.readReg_writeReg_same _ _ _ hrt, toNat_extendByte_mod, hbase,
    t.holdsWord_loadWord ea k hk]

/-- Settles O24: the registers are as before the store, so that each form of LD has the address of its ST. -/
theorem loadAfterStoreReadsIt : Obligations.LoadAfterStoreReadsIt := by
  unfold Obligations.LoadAfterStoreReadsIt
  intro s t rs ra rx rt d9 d23 d36 hrt
  have reads : ∀ {ea ea' len}, storeFrom rs ea len s = .next t → ea' = ea →
      (∃ u, loadInto rt ea' len t = .next u ∧ u.readReg rt = s.readReg rs) ∧
        ∀ k < 4, ∀ (rc : RegNo) (e : BitVec 36), t.baseAddress rc e = ea + BitVec.ofNat 52 k →
          ∃ u, exec (.ldb rt rc e) t = .next u ∧
            (u.readReg rt).toNat % 2 ^ 13 = (s.readReg rs).toNat / 2 ^ (13 * significance s.cfg k) % 2 ^ 13 := by
    rintro ea _ len h rfl
    obtain ⟨haccess, hword, hcfg, -⟩ := storeFrom_reads h
    refine ⟨loadInto_reads len hrt haccess hword, fun k hk rc e hbase => ?_⟩
    rw [← hword, ← hcfg]
    exact execLdb_reads hrt haccess hk hbase
  have indexed : ∀ {ea len}, storeFrom rs ea len s = .next t → t.indexedAddress ra rx = s.indexedAddress ra rx :=
    fun h => by
      obtain ⟨-, -, -, hregs⟩ := storeFrom_reads h
      rw [State.indexedAddress, State.indexedAddress, hregs]
  have based : ∀ {ea len bits}, storeFrom rs ea len s = .next t →
      ∀ d : BitVec bits, t.baseAddress ra d = s.baseAddress ra d :=
    fun h d => by
      obtain ⟨-, -, hcfg, hregs⟩ := storeFrom_reads h
      rw [State.baseAddress, State.baseAddress, hregs, hcfg]
  simp only [List.forall_mem_cons]
  exact ⟨fun h => reads h (indexed h), fun h => reads h (based h d9), fun h => reads h (based h d23),
    fun h => reads h (based h d36), by simp⟩

/-! ## Accesses that are refused -/

/-- Why a word access is refused, if it is (`20_memory.md` R57, R65). -/
theorem wordRefusal_explained {cfg : Config} {a : Word} {w : Refusal} (h : wordRefusal cfg a = some w) :
    (w = .notPlainMemory ∧ ∃ k < 4, ¬ ByteAccessible cfg (a + BitVec.ofNat 52 k)) ∨
      (w = .misalignedWord ∧ cfg.misalignedOk = false ∧ a.toNat % 4 ≠ 0) := by
  unfold wordRefusal at h
  split at h
  · rename_i hplain
    refine .inl ⟨(Option.some.inj h).symm, ?_⟩
    rw [Bool.not_eq_true', ← Bool.not_eq_true, plainWord_eq_true] at hplain
    simpa only [not_forall, exists_prop] using hplain
  · split at h
    · cases h
    · split at h
      · cases h
      · exact .inr ⟨(Option.some.inj h).symm, by simpa using ‹¬cfg.misalignedOk = true›, ‹_›⟩

theorem byteRefusal_explained {cfg : Config} {a : Word} {w : Refusal} (h : byteRefusal cfg a = some w) :
    w = .notPlainMemory ∧ ¬ ByteAccessible cfg a := by
  refine ⟨?_, fun haccess => by rw [(byteRefusal_eq_none _ _).2 haccess] at h; cases h⟩
  unfold byteRefusal at h
  split at h <;> cases h
  rfl

/-- What `RefusalExplained` says, of any words and bytes accessed. -/
def Explained (cfg : Config) (words bytes : List Word) (w : Refusal) : Prop :=
  (w = .notPlainMemory ∧
    ((∃ a ∈ words, ∃ k < 4, ¬ ByteAccessible cfg (a + BitVec.ofNat 52 k)) ∨ ∃ a ∈ bytes, ¬ ByteAccessible cfg a)) ∨
    (w = .misalignedWord ∧ cfg.misalignedOk = false ∧ ∃ a ∈ words, a.toNat % 4 ≠ 0)

/-- An outcome that is refused, with a reason, exactly where one of some accesses is not allowed. -/
def GuardedBy (cfg : Config) (words bytes : List Word) (r : Result) : Prop :=
  (((∀ a ∈ words, WordAccessible cfg a) ∧ ∀ a ∈ bytes, ByteAccessible cfg a) → ∃ t, r = .next t) ∧
    (¬ ((∀ a ∈ words, WordAccessible cfg a) ∧ ∀ a ∈ bytes, ByteAccessible cfg a) →
      ∃ w, r = .refused w ∧ Explained cfg words bytes w)

theorem guardedBy_next (cfg : Config) (t : State) : GuardedBy cfg [] [] (.next t) :=
  ⟨fun _ => ⟨t, rfl⟩, fun h => absurd (by simp) h⟩

/-- One more word access before the others. -/
theorem GuardedBy.word {cfg : Config} {words bytes : List Word} {r : Result} (h : GuardedBy cfg words bytes r)
    (a : Word) : GuardedBy cfg (a :: words) bytes (unlessRefused (wordRefusal cfg a) r) := by
  cases href : wordRefusal cfg a with
  | none =>
    have haccess := (wordRefusal_eq_none _ _).1 href
    refine ⟨fun ⟨hw, hb⟩ => h.1 ⟨(List.forall_mem_cons.1 hw).2, hb⟩, fun hnot => ?_⟩
    obtain ⟨w, hr, hwhy⟩ := h.2 fun ⟨hw, hb⟩ => hnot ⟨List.forall_mem_cons.2 ⟨haccess, hw⟩, hb⟩
    refine ⟨w, hr, ?_⟩
    rcases hwhy with ⟨e, hword | hbyte⟩ | ⟨e, hcfg, hword⟩
    · exact .inl ⟨e, .inl (List.exists_mem_cons_of_exists hword)⟩
    · exact .inl ⟨e, .inr hbyte⟩
    · exact .inr ⟨e, hcfg, List.exists_mem_cons_of_exists hword⟩
  | some w =>
    refine ⟨fun ⟨hw, _⟩ => ?_, fun _ => ⟨w, rfl, ?_⟩⟩
    · rw [(wordRefusal_eq_none _ _).2 (hw a List.mem_cons_self)] at href
      cases href
    · rcases wordRefusal_explained href with ⟨e, hbyte⟩ | ⟨e, hcfg, halign⟩
      · exact .inl ⟨e, .inl ⟨a, List.mem_cons_self, hbyte⟩⟩
      · exact .inr ⟨e, hcfg, a, List.mem_cons_self, halign⟩

/-- One more byte access before the others. -/
theorem GuardedBy.byte {cfg : Config} {words bytes : List Word} {r : Result} (h : GuardedBy cfg words bytes r)
    (a : Word) : GuardedBy cfg words (a :: bytes) (unlessRefused (byteRefusal cfg a) r) := by
  cases href : byteRefusal cfg a with
  | none =>
    have haccess := (byteRefusal_eq_none _ _).1 href
    refine ⟨fun ⟨hw, hb⟩ => h.1 ⟨hw, (List.forall_mem_cons.1 hb).2⟩, fun hnot => ?_⟩
    obtain ⟨w, hr, hwhy⟩ := h.2 fun ⟨hw, hb⟩ => hnot ⟨hw, List.forall_mem_cons.2 ⟨haccess, hb⟩⟩
    refine ⟨w, hr, ?_⟩
    rcases hwhy with ⟨e, hword | hbyte⟩ | ⟨e, hcfg, hword⟩
    · exact .inl ⟨e, .inl hword⟩
    · exact .inl ⟨e, .inr (List.exists_mem_cons_of_exists hbyte)⟩
    · exact .inr ⟨e, hcfg, hword⟩
  | some w =>
    obtain ⟨e, hbyte⟩ := byteRefusal_explained href
    exact ⟨fun ⟨_, hb⟩ => absurd (hb a List.mem_cons_self) hbyte,
      fun _ => ⟨w, rfl, .inl ⟨e, .inr ⟨a, List.mem_cons_self, hbyte⟩⟩⟩⟩

theorem takeTrap_guardedBy (kind : TrapKind) (ret : Word) (s : State) :
    GuardedBy s.cfg (trapAccesses s kind) [] (takeTrap kind ret s) := by
  unfold takeTrap trapAccesses
  split
  · exact (((guardedBy_next _ _).word _).word _).word _
  · exact (guardedBy_next _ _).word _

/-- Every instruction but PFI, whose meaning is a matter of the configuration, is guarded by its data accesses. -/
theorem exec_guardedBy (s : State) (i : Instr) (hpfi : i = .pfi → s.cfg.pfi = .nop) :
    GuardedBy s.cfg (wordsAccessed s i) (bytesAccessed s i) (exec i s) := by
  have done := guardedBy_next s.cfg
  cases i
  case pfi =>
    rw [show exec .pfi s = .next (s.advance 1) from execPfi_eq_next.2 ⟨hpfi rfl, rfl⟩]
    exact done _
  case ldRR | ldD9 | ldD23 | ldD36 | stRR | stD9 | stD23 | stD36 | jsrAbs | jsrReg | php | psh | rts | plp | pop | sts =>
    exact (done _).word _
  case rti | mvn | mvp | cmps => exact ((done _).word _).word _
  case ldb | stb | stsb => exact (done _).byte _
  case mvnb | mvpb | cmpsb => exact ((done _).byte _).byte _
  case rst => exact takeTrap_guardedBy .rst _ s
  case nmi => exact takeTrap_guardedBy .nmi _ s
  case irq => exact takeTrap_guardedBy .irq _ s
  case brk => exact takeTrap_guardedBy .brk _ s
  all_goals exact done _

/-- Settles O23: the data accesses guard the instruction; PFI has none. -/
theorem disallowedAccessesAreRefused : Obligations.DisallowedAccessesAreRefused := by
  unfold Obligations.DisallowedAccessesAreRefused
  refine fun s i => ⟨fun haccess hpfi => (exec_guardedBy s i hpfi).1 haccess, fun hnot => ?_, fun hmap hmis => ?_⟩
  · refine (exec_guardedBy s i fun e => absurd ?_ hnot).2 hnot
    subst e
    exact ⟨by simp [wordsAccessed], by simp [bytesAccessed]⟩
  · exact ⟨fun a _ => (wordRefusal_eq_none _ _).1 (wordRefusal_default _ _ hmap hmis),
      fun a _ => (byteRefusal_eq_none _ _).1 (byteRefusal_default _ _ hmap)⟩

end Sys2Proof.Machine
end

section
/-! PROOFS. Shifts and rotates (`42_shift.md`): the one-bit steps, repeated, in closed form. A rotate through the
carry is a rotation of one 53-bit number, of which each step is a rotation by one place. -/

namespace Sys2Proof.Machine

/-! ## Repeated steps -/

/-- The last of `k + 1` steps comes after the first `k`. -/
theorem repeatStep_succ_last (f : Shifted → Shifted) (k : Nat) (x : Shifted) :
    repeatStep f (k + 1) x = f (repeatStep f k x) := by
  induction k generalizing x with
  | zero => rfl
  | succ k ih => exact ih (f x)

/-- A value, n and z from it, and a carry (`42_shift.md` R161). -/
theorem shiftInto_done (s : State) (rt : RegNo) (f : Shifted → Shifted) (a : Word) (k : Nat) {v : Nat} {carry : Prop}
    (hv : (repeatStep f k (a, s.sr.c)).1.toNat = v) (hc : (repeatStep f k (a, s.sr.c)).2 = true ↔ carry) :
    ∃ t, shiftInto rt f a k s = .next t ∧ ShiftDone s t rt v carry := by
  obtain ⟨t, ht, hreg, hsr, hpc, hframe⟩ := finishResult_done s rt 2 (r := (repeatStep f k (a, s.sr.c)).1)
    (afterShift_keeps s.sr (repeatStep f k (a, s.sr.c)).1 (repeatStep f k (a, s.sr.c)).2)
  rw [hv] at hreg
  refine ⟨t, ht, hreg, ?_, ?_, hpc, hframe⟩ <;> rw [hsr]
  · rw [← hv]
    exact flagsNZOf_setNZ s.sr _
  · exact hc

/-! ## Shifts -/

theorem msb_eq_testBit (x : Word) : x.msb = x.toNat.testBit 51 := by
  rw [BitVec.testBit_toNat]
  rfl

/-- ASL by `k`, closed (`42_shift.md` R163). -/
theorem repeatStep_aslStep (a : Word) (c : Bool) (k : Nat) :
    (repeatStep aslStep k (a, c)).1.toNat = aslValue a.toNat k ∧
      ((repeatStep aslStep k (a, c)).2 = true ↔ AslCarry c a.toNat k) := by
  induction k with
  | zero => simp [repeatStep, aslValue, AslCarry, Nat.mod_eq_of_lt a.isLt]
  | succ k ih =>
    obtain ⟨hvalue, -⟩ := ih
    rw [repeatStep_succ_last]
    constructor
    · rw [aslStep, BitVec.toNat_shiftLeft, hvalue, aslValue, aslValue, Nat.shiftLeft_eq, Nat.mod_mul_mod, mul_assoc,
        ← pow_add]
    · rw [aslStep, msb_eq_testBit, hvalue, aslValue, Nat.testBit_mod_two_pow, Nat.testBit_mul_two_pow, AslCarry]
      by_cases hk : k ≤ 51
      · simp [hk, show k + 1 ≤ 52 by omega, show 52 - (k + 1) = 51 - k by omega]
      · simp [hk, show ¬ k + 1 ≤ 52 by omega]

/-- LSR by `k`, closed (`42_shift.md` R165). -/
theorem repeatStep_lsrStep (a : Word) (c : Bool) (k : Nat) :
    (repeatStep lsrStep k (a, c)).1.toNat = lsrValue a.toNat k ∧
      ((repeatStep lsrStep k (a, c)).2 = true ↔ LsrCarry c a.toNat k) := by
  induction k with
  | zero => simp [repeatStep, lsrValue, LsrCarry]
  | succ k ih =>
    obtain ⟨hvalue, -⟩ := ih
    rw [repeatStep_succ_last]
    constructor
    · rw [lsrStep, BitVec.toNat_ushiftRight, hvalue, lsrValue, lsrValue, Nat.shiftRight_eq_div_pow, Nat.div_div_eq_div_mul,
        ← pow_add]
    · rw [lsrStep, ← BitVec.testBit_toNat, hvalue, lsrValue, Nat.testBit_div_two_pow, LsrCarry]
      simp

/-- Settles O25: each form is the closed form of its step repeated. -/
theorem shiftsInClosedForm : Obligations.ShiftsInClosedForm := by
  unfold Obligations.ShiftsInClosedForm
  intro s rt ra rb n
  have asl := fun k => shiftInto_done s rt aslStep (s.readReg ra) k (repeatStep_aslStep _ _ k).1
    (repeatStep_aslStep _ _ k).2
  have lsr := fun k => shiftInto_done s rt lsrStep (s.readReg ra) k (repeatStep_lsrStep _ _ k).1
    (repeatStep_lsrStep _ _ k).2
  exact ⟨asl _, asl _, lsr _, lsr _⟩

/-! ## Rotations of numbers -/

/-- Moving the high part of a number below its low part. -/
theorem rotate_parts {p q hi lo : Nat} (hlo : lo < q) (hp : 0 < p) :
    (hi * q + lo) * p % (p * q) + (hi * q + lo) / q = lo * p + hi := by
  have hq : 0 < q := by omega
  have hmul : (hi * q + lo) * p = lo * p + p * q * hi := by ring
  have hlt : lo * p < p * q := by rw [mul_comm p q]; exact Nat.mul_lt_mul_of_pos_right hlo hp
  rw [hmul, Nat.add_mul_mod_self_left, Nat.mod_eq_of_lt hlt, mul_comm hi q, Nat.mul_add_div hq, Nat.div_eq_of_lt hlo,
    Nat.add_zero]

/-- One place more to the left is one rotation by one place more, in powers of 2 `p` and `q`. -/
theorem rotateLeft_step {n p q x : Nat} (hp : 0 < p) (hq : 0 < q) (hn : n = p * 2 * q) (hx : x < n) :
    x * (p * 2) % n + x / q =
      (x * p % n + x / (q * 2)) * 2 % n + (x * p % n + x / (q * 2)) / (p * q) := by
  have hhi : x / (q * 2) < p := Nat.div_lt_of_lt_mul (by linarith)
  obtain ⟨hi, t, lo, ht, hlo, rfl⟩ : ∃ hi t lo, t < 2 ∧ lo < q ∧ x = hi * (q * 2) + (t * q + lo) :=
    ⟨x / q / 2, x / q % 2, x % q, Nat.mod_lt _ (by decide), Nat.mod_lt _ hq, by
      have h1 := Nat.div_add_mod x q
      have h2 := Nat.div_add_mod (x / q) 2
      nlinarith⟩
  have hlow : t * q + lo < q * 2 := by nlinarith
  have hhi' : hi < p := by
    rwa [mul_comm hi, Nat.mul_add_div (by omega), Nat.div_eq_of_lt hlow, Nat.add_zero] at hhi
  have hz : lo * p + hi < p * q := by nlinarith
  have hfirst := rotate_parts (hi := hi) hlow hp
  have hsecond := rotate_parts (p := p * 2) (hi := hi * 2 + t) hlo (by omega)
  have hthird := rotate_parts (p := 2) (hi := t) hz (by decide)
  rw [show p * (q * 2) = n by rw [hn]; ring] at hfirst
  rw [← hn, show (hi * 2 + t) * q + lo = hi * (q * 2) + (t * q + lo) by ring] at hsecond
  rw [show 2 * (p * q) = n by rw [hn]; ring, show t * (p * q) + (lo * p + hi) = (t * q + lo) * p + hi by ring]
    at hthird
  rw [hfirst, hsecond, hthird]
  ring

/-- A rotation by `r` places, also by all `n`, which is none. -/
theorem rotatedLeft_of_mod {n x m r : Nat} (hx : x < 2 ^ n) (hr : r ≤ n) (hm : m % n = r % n) :
    rotatedLeft n x m = x * 2 ^ r % 2 ^ n + x / 2 ^ (n - r) := by
  rw [rotatedLeft, hm]
  rcases hr.lt_or_eq with hlt | rfl
  · rw [Nat.mod_eq_of_lt hlt]
  · simp [Nat.mod_eq_of_lt hx, Nat.div_eq_of_lt hx]

theorem rotatedLeft_succ {n x : Nat} (hn : 0 < n) (hx : x < 2 ^ n) (m : Nat) :
    rotatedLeft n x (m + 1) = rotatedLeft n x m * 2 % 2 ^ n + rotatedLeft n x m / 2 ^ (n - 1) := by
  obtain ⟨d, hd⟩ : ∃ d, n = m % n + 1 + d := Nat.exists_eq_add_of_le (Nat.mod_lt m hn)
  rw [rotatedLeft_of_mod hx (r := m % n + 1) (by omega) (by simp), rotatedLeft_of_mod hx (Nat.mod_lt m hn).le (by simp),
    show n - (m % n + 1) = d by omega, show n - m % n = d + 1 by omega, pow_succ, pow_succ,
    show 2 ^ (n - 1) = 2 ^ (m % n) * 2 ^ d by rw [← pow_add]; congr 1; omega]
  exact rotateLeft_step (Nat.two_pow_pos _) (Nat.two_pow_pos _) (by rw [← pow_succ, ← pow_add, ← hd]) hx

/-- One place more to the right, in powers of 2 `p` and `q`. -/
theorem rotateRight_step (p q x : Nat) :
    x / (p * 2) + x % (p * 2) * q =
      (x / p + x % p * (q * 2)) / 2 + (x / p + x % p * (q * 2)) % 2 * (p * q) := by
  have hx : x % (p * 2) = x / p % 2 * p + x % p := by
    rw [Nat.mod_mul, mul_comm, add_comm]
  have hdiv : (x / p + x % p * (q * 2)) / 2 = x / p / 2 + x % p * q := by
    rw [← mul_assoc, Nat.add_mul_div_right _ _ (by decide)]
  have hmod : (x / p + x % p * (q * 2)) % 2 = x / p % 2 := by
    rw [← mul_assoc, Nat.add_mul_mod_self_right]
  rw [hx, hdiv, hmod, Nat.div_div_eq_div_mul]
  ring

theorem rotatedRight_of_mod {n x m r : Nat} (hx : x < 2 ^ n) (hr : r ≤ n) (hm : m % n = r % n) :
    rotatedRight n x m = x / 2 ^ r + x % 2 ^ r * 2 ^ (n - r) := by
  rw [rotatedRight, hm]
  rcases hr.lt_or_eq with hlt | rfl
  · rw [Nat.mod_eq_of_lt hlt]
  · simp [Nat.mod_eq_of_lt hx, Nat.div_eq_of_lt hx, Nat.mod_one]

theorem rotatedRight_succ {n x : Nat} (hn : 0 < n) (hx : x < 2 ^ n) (m : Nat) :
    rotatedRight n x (m + 1) = rotatedRight n x m / 2 + rotatedRight n x m % 2 * 2 ^ (n - 1) := by
  obtain ⟨d, hd⟩ : ∃ d, n = m % n + 1 + d := Nat.exists_eq_add_of_le (Nat.mod_lt m hn)
  rw [rotatedRight_of_mod hx (r := m % n + 1) (by omega) (by simp),
    rotatedRight_of_mod hx (Nat.mod_lt m hn).le (by simp), show n - (m % n + 1) = d by omega,
    show n - m % n = d + 1 by omega, pow_succ, pow_succ,
    show 2 ^ (n - 1) = 2 ^ (m % n) * 2 ^ d by rw [← pow_add]; congr 1; omega]
  exact rotateRight_step _ _ _

theorem rotatedLeft_zero {n x : Nat} (hx : x < 2 ^ n) : rotatedLeft n x 0 = x := by
  rw [rotatedLeft_of_mod hx (Nat.zero_le n) rfl]
  simp [Nat.mod_eq_of_lt hx, Nat.div_eq_of_lt hx]

theorem rotatedRight_zero {n x : Nat} (hx : x < 2 ^ n) : rotatedRight n x 0 = x := by
  rw [rotatedRight_of_mod hx (Nat.zero_le n) rfl]
  simp [Nat.mod_one]

/-! ## Rotates -/

/-- The carry above the value: the 53 bits that ROL rotates. -/
def Shifted.carryAbove (x : Shifted) : Nat := x.2.toNat * 2 ^ 52 + x.1.toNat

/-- The carry below the value: the 53 bits that ROR rotates. -/
def Shifted.carryBelow (x : Shifted) : Nat := x.1.toNat * 2 + x.2.toNat

theorem Shifted.carryAbove_lt (x : Shifted) : x.carryAbove < 2 ^ 53 := by
  have hlt := x.1.isLt
  have hc := x.2.toNat_le
  unfold Shifted.carryAbove
  omega

theorem Shifted.carryBelow_lt (x : Shifted) : x.carryBelow < 2 ^ 53 := by
  have hlt := x.1.isLt
  have hc := x.2.toNat_le
  unfold Shifted.carryBelow
  omega

theorem toNat_eq_one_iff (b : Bool) : b.toNat = 1 ↔ b = true := by
  cases b <;> simp

theorem Shifted.carryAbove_parts (x : Shifted) :
    x.1.toNat = x.carryAbove % 2 ^ 52 ∧ (x.2 = true ↔ x.carryAbove.testBit 52 = true) := by
  have hlt := x.1.isLt
  have hc := x.2.toNat_le
  rw [Nat.testBit_eq_decide_div_mod_eq, decide_eq_true_iff, ← toNat_eq_one_iff, Shifted.carryAbove]
  constructor <;> omega

theorem Shifted.carryBelow_parts (x : Shifted) :
    x.1.toNat = x.carryBelow / 2 ∧ (x.2 = true ↔ x.carryBelow.testBit 0 = true) := by
  have hc := x.2.toNat_le
  rw [Nat.testBit_zero, decide_eq_true_iff, ← toNat_eq_one_iff, Shifted.carryBelow]
  constructor <;> omega

/-- One bit to the left, with a bit that enters at the right. -/
theorem toNat_shiftLeft_enter (a : Word) (e : Bool) :
    (a <<< 1 ||| (BitVec.ofBool e).zeroExtend 52).toNat = a.toNat * 2 % 2 ^ 52 + e.toNat := by
  have hlt := a.isLt
  have heven : a.toNat * 2 % 2 ^ 52 = 2 ^ 1 * (a.toNat % 2 ^ 51) := by omega
  have he := e.toNat_lt
  rw [BitVec.toNat_or, BitVec.toNat_shiftLeft, Nat.shiftLeft_eq, pow_one, heven,
    Nat.two_pow_add_eq_or_of_lt (by simpa using he)]
  cases e <;> rfl

/-- One bit to the right, with a bit that enters at the left. -/
theorem toNat_shiftRight_enter (a : Word) (e : Bool) :
    (a >>> 1 ||| (BitVec.ofBool e).zeroExtend 52 <<< 51).toNat = a.toNat / 2 + e.toNat * 2 ^ 51 := by
  have hlt := a.isLt
  have hhalf : a.toNat / 2 < 2 ^ 51 := by omega
  rw [BitVec.toNat_or, BitVec.toNat_ushiftRight, Nat.shiftRight_eq_div_pow, pow_one, add_comm, mul_comm,
    Nat.two_pow_add_eq_or_of_lt hhalf, Nat.lor_comm]
  cases e <;> rfl

theorem toNat_msb (a : Word) : a.msb.toNat = a.toNat / 2 ^ 51 := by
  have hlt := a.isLt
  rw [BitVec.msb_eq_decide]
  by_cases h : 2 ^ (52 - 1) ≤ a.toNat
  · rw [decide_eq_true h, Bool.toNat_true]
    omega
  · rw [decide_eq_false h, Bool.toNat_false]
    omega

theorem toNat_lowBit (a : Word) : (a.getLsbD 0).toNat = a.toNat % 2 := by
  rw [← BitVec.testBit_toNat, Nat.testBit_zero]
  rcases Nat.mod_two_eq_zero_or_one a.toNat with h | h <;> simp [h]

theorem carryAbove_rolStep (x : Shifted) :
    (rolStep true x).carryAbove = x.carryAbove * 2 % 2 ^ 53 + x.carryAbove / 2 ^ 52 := by
  have hlt := x.1.isLt
  have hc := x.2.toNat_le
  simp only [Shifted.carryAbove, rolStep, if_true, toNat_shiftLeft_enter, toNat_msb]
  omega

theorem carryBelow_rorStep (x : Shifted) :
    (rorStep true x).carryBelow = x.carryBelow / 2 + x.carryBelow % 2 * 2 ^ 52 := by
  have hlt := x.1.isLt
  have hc := x.2.toNat_le
  simp only [Shifted.carryBelow, rorStep, if_true, toNat_shiftRight_enter, toNat_lowBit]
  omega

/-- ROL by `k` through the carry is a rotation of 53 bits (`42_shift.md` R164). -/
theorem carryAbove_repeat_rolStep (x : Shifted) (k : Nat) :
    (repeatStep (rolStep true) k x).carryAbove = rotatedLeft 53 x.carryAbove k := by
  induction k with
  | zero => exact (rotatedLeft_zero x.carryAbove_lt).symm
  | succ k ih => rw [repeatStep_succ_last, carryAbove_rolStep, ih, rotatedLeft_succ (by decide) x.carryAbove_lt]

/-- ROR by `k` through the carry is a rotation of 53 bits (`42_shift.md` R166). -/
theorem carryBelow_repeat_rorStep (x : Shifted) (k : Nat) :
    (repeatStep (rorStep true) k x).carryBelow = rotatedRight 53 x.carryBelow k := by
  induction k with
  | zero => exact (rotatedRight_zero x.carryBelow_lt).symm
  | succ k ih => rw [repeatStep_succ_last, carryBelow_rorStep, ih, rotatedRight_succ (by decide) x.carryBelow_lt]

theorem rolStep_past_parts (x : Shifted) :
    (rolStep false x).1.toNat = x.1.toNat * 2 % 2 ^ 52 + x.1.toNat / 2 ^ 51 ∧
      ((rolStep false x).2 = true ↔ (x.1.toNat * 2 % 2 ^ 52 + x.1.toNat / 2 ^ 51).testBit 0 = true) := by
  have hlt := x.1.isLt
  refine ⟨by simp only [rolStep, Bool.false_eq_true, if_false, toNat_shiftLeft_enter, toNat_msb], ?_⟩
  rw [Nat.testBit_zero, decide_eq_true_iff, ← toNat_eq_one_iff]
  simp only [rolStep, toNat_msb]
  omega

theorem rorStep_past_parts (x : Shifted) :
    (rorStep false x).1.toNat = x.1.toNat / 2 + x.1.toNat % 2 * 2 ^ 51 ∧
      ((rorStep false x).2 = true ↔ (x.1.toNat / 2 + x.1.toNat % 2 * 2 ^ 51).testBit 51 = true) := by
  have hlt := x.1.isLt
  refine ⟨by simp only [rorStep, Bool.false_eq_true, if_false, toNat_shiftRight_enter, toNat_lowBit], ?_⟩
  rw [Nat.testBit_eq_decide_div_mod_eq, decide_eq_true_iff, ← toNat_eq_one_iff]
  simp only [rorStep, toNat_lowBit]
  omega

/-- ROL by `k` past the carry is a rotation of 52 bits, and c the last bit moved (`42_shift.md` R164). -/
theorem repeatStep_rolStep_past (a : Word) (c : Bool) (k : Nat) :
    (repeatStep (rolStep false) k (a, c)).1.toNat = rotatedLeft 52 a.toNat k ∧
      ((repeatStep (rolStep false) k (a, c)).2 = true ↔
        if k = 0 then c = true else (rotatedLeft 52 a.toNat k).testBit 0 = true) := by
  induction k with
  | zero => exact ⟨(rotatedLeft_zero a.isLt).symm, by simp [repeatStep]⟩
  | succ k ih =>
    rw [repeatStep_succ_last, rotatedLeft_succ (by decide) a.isLt, if_neg k.succ_ne_zero, ← ih.1]
    exact rolStep_past_parts _

/-- ROR by `k` past the carry is a rotation of 52 bits, and c the last bit moved (`42_shift.md` R166). -/
theorem repeatStep_rorStep_past (a : Word) (c : Bool) (k : Nat) :
    (repeatStep (rorStep false) k (a, c)).1.toNat = rotatedRight 52 a.toNat k ∧
      ((repeatStep (rorStep false) k (a, c)).2 = true ↔
        if k = 0 then c = true else (rotatedRight 52 a.toNat k).testBit 51 = true) := by
  induction k with
  | zero => exact ⟨(rotatedRight_zero a.isLt).symm, by simp [repeatStep]⟩
  | succ k ih =>
    rw [repeatStep_succ_last, rotatedRight_succ (by decide) a.isLt, if_neg k.succ_ne_zero, ← ih.1]
    exact rorStep_past_parts _

theorem rol_done (s : State) (rt : RegNo) (a : Word) (k : Nat) :
    ∃ t, shiftInto rt (rolStep s.cfg.rotateThroughCarry) a k s = .next t ∧ RolDone s t rt a.toNat k := by
  unfold RolDone
  cases s.cfg.rotateThroughCarry with
  | false =>
    obtain ⟨hvalue, hcarry⟩ := repeatStep_rolStep_past a s.sr.c k
    exact shiftInto_done s rt _ a k hvalue hcarry
  | true =>
    obtain ⟨hvalue, hcarry⟩ := (repeatStep (rolStep true) k (a, s.sr.c)).carryAbove_parts
    rw [carryAbove_repeat_rolStep] at hvalue hcarry
    exact shiftInto_done s rt _ a k hvalue hcarry

theorem ror_done (s : State) (rt : RegNo) (a : Word) (k : Nat) :
    ∃ t, shiftInto rt (rorStep s.cfg.rotateThroughCarry) a k s = .next t ∧ RorDone s t rt a.toNat k := by
  unfold RorDone
  cases s.cfg.rotateThroughCarry with
  | false =>
    obtain ⟨hvalue, hcarry⟩ := repeatStep_rorStep_past a s.sr.c k
    exact shiftInto_done s rt _ a k hvalue hcarry
  | true =>
    obtain ⟨hvalue, hcarry⟩ := (repeatStep (rorStep true) k (a, s.sr.c)).carryBelow_parts
    rw [carryBelow_repeat_rorStep] at hvalue hcarry
    exact shiftInto_done s rt _ a k hvalue hcarry

/-- Settles O26: each form is its step repeated, which is a rotation. -/
theorem rotatesInClosedForm : Obligations.RotatesInClosedForm := by
  unfold Obligations.RotatesInClosedForm
  intro s rt ra rb n
  exact ⟨rol_done s rt _ _, rol_done s rt _ _, ror_done s rt _ _, ror_done s rt _ _⟩

end Sys2Proof.Machine
end

section
/-! PROOFS. What every instruction and every step keeps: read off the effect of the instruction, and of the step. -/

namespace Sys2Proof.Machine

/-! ## Every instruction -/

/-- Settles O56. -/
theorem onlyTheListedFlagsAndRegistersChange : Obligations.OnlyTheListedFlagsAndRegistersChange := by
  unfold Obligations.OnlyTheListedFlagsAndRegistersChange
  intro i s t h
  obtain ⟨_, heffect, -⟩ := exec_footprint h
  exact ⟨heffect.flags, heffect.regs⟩

/-- Settles O57. -/
theorem onlyTheStoredBytesChange : Obligations.OnlyTheStoredBytesChange := by
  unfold Obligations.OnlyTheStoredBytesChange
  intro i s t h x hx
  obtain ⟨_, heffect, hspan⟩ := exec_footprint h
  exact heffect.loadByte_outside hspan hx

/-- pc after an instruction that does not transfer control: one case per operation. -/
theorem exec_pc {i : Instr} {s t : State} (hi : transfersControl i = false) (h : exec i s = .next t) :
    t.pc = s.pc + BitVec.ofNat 52 i.length := by
  cases i
  case addRR | addI9 | addI23 | addI36 | subRR | subI9 | subI23 | subI36 | andRR | andI9 | andI23 | andI36 | orRR | orI9
      | orI23 | orI36 | eorRR | eorI9 | eorI23 | eorI36 | aslRR | aslI6 | rolRR | rolI6 | lsrRR | lsrI6 | rorRR
      | rorI6 =>
    obtain rfl := next_inj.1 h
    simp [Instr.length]
  case cmpRR | cmpI9 | cmpI23 | cmpI36 | bitRR | bitI9 | bitI23 | bitI36 | sep | rep | nop | wai | stp =>
    obtain rfl := next_inj.1 h
    rfl
  case ldRR | ldD9 | ldD23 | ldD36 =>
    obtain ⟨-, rfl⟩ := loadInto_eq_next.1 h
    simp [Instr.length]
  case stRR | stD9 | stD23 | stD36 =>
    obtain ⟨-, rfl⟩ := storeFrom_eq_next.1 h
    rfl
  case pfi =>
    obtain ⟨-, rfl⟩ := execPfi_eq_next.1 h
    rfl
  case ldb | stb | php | psh | plp | pop =>
    obtain ⟨-, h⟩ := unlessRefused_eq_next.1 h
    obtain rfl := next_inj.1 h
    simp [Instr.length]
  all_goals cases hi

/-- Settles O58. -/
theorem otherInstructionsAdvancePc : Obligations.OtherInstructionsAdvancePc := by
  unfold Obligations.OtherInstructionsAdvancePc
  exact fun i s t hi h => pcAdvanced_of_eq (exec_pc hi h)

/-! ## Every step -/

/-- The step is a reset: by the input, or by the instruction RST (`20_memory.md` R70, log entry 43). -/
def State.Resets (s : State) : Prop :=
  s.boundary = .trap .rst ∨ s.boundary = .execute ∧ s.takeRequests.fetch = .instruction .rst

/-- A step has an effect, from the state whose requests are used up; it adds its stores to the record there was, or to
an empty one if it is a reset. -/
theorem step_effect {s t : State} (h : step s = .next t) :
    ∃ regs flags run record ws, Effect s.takeRequests t regs flags run record ws ∧
      (record = s.written ∨ record = [] ∧ s.Resets) := by
  rcases step_eq_next.1 h with ⟨kind, hboundary, htrap⟩ | ⟨-, rfl⟩ | ⟨-, rfl⟩ | ⟨hboundary, i, hfetch, hexec⟩
  · obtain ⟨ws, heffect, -⟩ := takeTrap_footprint htrap
    refine ⟨_, _, _, _, ws, heffect, ?_⟩
    split
    · rename_i hkind
      exact .inr ⟨rfl, .inl (hkind ▸ hboundary)⟩
    · exact .inl rfl
  · exact ⟨[], [], _, _, _, Effect.refl _ _ _, .inl rfl⟩
  · exact ⟨[], [], _, _, _, (Effect.refl _ _ _).setRun .running, .inl rfl⟩
  · obtain ⟨ws, heffect, -⟩ := exec_footprint hexec
    refine ⟨_, _, _, _, ws, heffect, ?_⟩
    unfold recordBefore
    split
    · rename_i hrst
      exact .inr ⟨rfl, .inr ⟨hboundary, hrst ▸ hfetch⟩⟩
    · exact .inl rfl

theorem State.Inv.takeRequests {s : State} (h : s.Inv) : s.takeRequests.Inv :=
  ⟨h.memory, h.codeMemory, h.stored, h.regZero, h.layout⟩

/-- Settles O52: the effect of a step keeps it. -/
theorem stepKeepsInvariant : Obligations.StepKeepsInvariant := by
  unfold Obligations.StepKeepsInvariant
  intro s t hinv h
  obtain ⟨_, _, _, record, _, heffect, hrecord⟩ := step_effect h
  refine heffect.inv hinv.takeRequests ?_
  rcases hrecord with rfl | ⟨rfl, -⟩
  · exact hinv.stored
  · rfl

/-- Settles O55. -/
theorem stepKeepsConfigurationAndCode : Obligations.StepKeepsConfigurationAndCode := by
  unfold Obligations.StepKeepsConfigurationAndCode
  intro s t h
  obtain ⟨_, _, _, _, _, heffect, -⟩ := step_effect h
  exact heffect.rest

/-- Settles O60. -/
theorem changedBytesAreRecorded : Obligations.ChangedBytesAreRecorded := by
  unfold Obligations.ChangedBytesAreRecorded
  intro s t h
  obtain ⟨_, _, _, record, _, heffect, hrecord⟩ := step_effect h
  refine ⟨fun a => heffect.mem_written_of_changed, ?_⟩
  rcases hrecord with rfl | ⟨-, hreset⟩
  · refine .inl fun a ha => ?_
    rw [heffect.written, mem_recordAll]
    exact .inl ha
  · exact .inr hreset

/-! ## The run state -/

theorem runAfter_running {i : Instr} (h : runAfter i .running ≠ .running) : i = .wai ∨ i = .stp := by
  cases i <;> simp [runAfter] at h ⊢

/-- Settles O59: WAI and STP alone leave another run state, and a stopped core is idle without an rst request. -/
theorem runStateChanges : Obligations.RunStateChanges := by
  unfold Obligations.RunStateChanges
  constructor
  · intro i s t h hrunning hleft
    obtain ⟨_, heffect, -⟩ := exec_footprint h
    rw [heffect.run, hrunning] at hleft
    exact runAfter_running hleft
  · intro s t h hstopped hleft
    by_contra hrst
    have hidle : s.boundary = .idle := by
      simp [State.boundary, boundaryAction, hstopped, hrst]
    rw [step, hidle] at h
    exact hleft (next_inj.1 h ▸ hstopped)

/-! ## Reset -/

/-- Settles O53. -/
theorem resetMeetsInvariant : Obligations.ResetMeetsInvariant := by
  unfold Obligations.ResetMeetsInvariant
  exact ⟨rfl, rfl, rfl, rfl, by decide⟩

/-- Settles O54: pc is the word a load at the vector reads. -/
theorem powerOnState : Obligations.PowerOnState := by
  unfold Obligations.PowerOnState
  exact fun cfg init inputs => ⟨rfl, rfl, rfl, rfl, (State.powerOn cfg init inputs).toNat_loadWord cfg.vecRst⟩

end Sys2Proof.Machine
end

section
/-! PROOFS. The stack, transfers of control and the status register (`43_flow_control.md` sections 1 to 3,
`44_stack.md`, `45_status.md`). -/

namespace Sys2Proof.Machine

/-! ## The image of the status register -/

theorem isSRImage_packSR (p : FlagPositions) (sr : StatusRegister) : IsSRImage p sr (packSR p sr).toNat := fun k => by
  rw [BitVec.testBit_toNat, getLsbD_packSR]

theorem flagsFromImage_unpackSR (p : FlagPositions) (w : Word) : FlagsFromImage p (unpackSR p w) w.toNat := fun f => by
  rw [unpackSR, StatusRegister.get_ofFlags, BitVec.testBit_toNat]

/-! ## A word pushed, a word popped -/

theorem State.sp_setPc (s : State) (target : Word) : (s.setPc target).sp = s.sp := rfl

theorem State.sp_advance (s : State) (len : Nat) : (s.advance len).sp = s.sp := rfl

theorem spRaised_of_eq {s t : State} {n : Nat} (h : t.sp = s.sp + BitVec.ofNat 52 n) : SpRaised s t n := by
  unfold SpRaised
  rw [show t.readReg regSp = s.readReg regSp + BitVec.ofNat 52 n from h, BitVec.toNat_add, BitVec.toNat_ofNat,
    Nat.add_mod_mod]

theorem push_done (s : State) (v target : Word) : PushDone s ((s.push v).setPc target) v.toNat := by
  refine ⟨?_, holdsWord_of_loadWord ?_, ((push_effect s v).setPc target).storeFrame (spans_wordStores _ _ _)⟩
  · rw [State.readReg_setPc, State.readReg_push, if_pos rfl]
    exact difference_toNat _ _
  · rw [State.loadWord_setPc]
    exact s.loadWord_push v

theorem Effect.storesNothing {s t : State} {regs : List RegNo} {flags : List Flag} {run : RunState}
    (h : Effect s t regs flags run s.written []) : StoresNothing s t :=
  ⟨fun a => by rw [h.mem]; rfl, h.written⟩

/-! ## Jumps and branches -/

theorem setPc_transferDone (s : State) (target : Word) : TransferDone s (s.setPc target) target.toNat :=
  ⟨rfl, (setPc_effect s target).frame⟩

/-- Settles O27. -/
theorem jumpsGoToTheirTarget : Obligations.JumpsGoToTheirTarget := by
  unfold Obligations.JumpsGoToTheirTarget
  intro s addr ra
  rw [← toNat_jumpTarget]
  exact ⟨⟨_, rfl, setPc_transferDone s _⟩, ⟨_, rfl, setPc_transferDone s _⟩⟩

theorem branchIf_done (s : State) {bits : Nat} (disp : BitVec bits) {len : Nat} (hlen : len ≤ 4) (hbits : bits ≤ 52)
    {taken : Bool} {cond : Prop} (hcond : taken = true ↔ cond) :
    ∃ t, branchIf taken len disp s = .next t ∧ BranchDone s t cond len disp.toInt := by
  refine ⟨_, branchIf_eq_next taken len disp s, fun hyes => ?_, fun hno => ?_, (setPc_effect s _).frame⟩
  · rw [if_pos (hcond.2 hyes)]
    exact toNat_branchTarget s len hlen hbits disp
  · rw [if_neg (mt hcond.1 hno)]
    exact pcAdvanced_of_eq rfl

/-- Settles O32: each branch is `branchIf` of its flag. -/
theorem branchesFollowTheirFlag : Obligations.BranchesFollowTheirFlag := by
  unfold Obligations.BranchesFollowTheirFlag
  intro s d4 d17
  have branch : ∀ {taken : Bool} {cond : Prop}, (taken = true ↔ cond) →
      (∃ t, branchIf taken 1 d4 s = .next t ∧ BranchDone s t cond 1 d4.toInt) ∧
        ∃ t, branchIf taken 2 d17 s = .next t ∧ BranchDone s t cond 2 d17.toInt := fun hcond =>
    ⟨branchIf_done s d4 (by decide) (by decide) hcond, branchIf_done s d17 (by decide) (by decide) hcond⟩
  simp only [List.forall_mem_cons]
  exact ⟨branch Iff.rfl, branch (by simp), branch (by simp), branch Iff.rfl, branch Iff.rfl,
    branch (by simp), branch Iff.rfl, branch (by simp), branch (taken := true) (by simp), by simp⟩

/-! ## Calls and returns -/

theorem callSubroutine_done {s : State} (haccess : WordAccessible s.cfg (s.sp - 4#52)) (target : Word) (len : Nat) :
    ∃ t, callSubroutine target len s = .next t ∧ t.pc = target ∧ PushDone s t ((s.pc.toNat + len) % 2 ^ 52) := by
  refine ⟨_, callSubroutine_eq_next.2 ⟨(wordRefusal_eq_none _ _).2 haccess, rfl⟩, rfl, ?_⟩
  have hpush := push_done s (s.pc + BitVec.ofNat 52 len) target
  rwa [BitVec.toNat_add, BitVec.toNat_ofNat, Nat.add_mod_mod] at hpush

/-- Settles O28. -/
theorem callsPushAndGo : Obligations.CallsPushAndGo := by
  unfold Obligations.CallsPushAndGo
  intro s addr ra haccess
  obtain ⟨t, ht, hpc, hpush⟩ := callSubroutine_done haccess (s.jumpTarget addr) 4
  exact ⟨⟨t, ht, by rw [hpc, toNat_jumpTarget], hpush⟩, callSubroutine_done haccess (s.readReg ra) 1⟩

/-- RTS where the word at sp may be read (`43_flow_control.md` R185). -/
theorem rts_done {s : State} (haccess : WordAccessible s.cfg s.sp) :
    ∃ t, exec .rts s = .next t ∧ t.pc = s.loadWord s.sp ∧ t.sp = s.sp + 4#52 ∧ Frame s t [regSp] [] :=
  ⟨s.dropWord.setPc (s.loadWord s.sp), unlessRefused_eq_next.2 ⟨(wordRefusal_eq_none _ _).2 haccess, rfl⟩, rfl,
    s.sp_dropWord, (((Effect.refl s [regSp] []).dropWord (by simp)).setPc _).frame⟩

/-- Settles O29. -/
theorem rtsPopsPc : Obligations.RtsPopsPc := by
  unfold Obligations.RtsPopsPc
  intro s haccess
  obtain ⟨t, ht, hpc, hsp, hframe⟩ := rts_done haccess
  exact ⟨t, ht, by rw [hpc, State.toNat_loadWord]; rfl, spRaised_of_eq hsp, hframe⟩

/-- What a call leaves for the return (`20_memory.md` R60). -/
theorem callSubroutine_leaves {s t : State} {target : Word} {len : Nat} (h : callSubroutine target len s = .next t) :
    WordAccessible t.cfg t.sp ∧ t.sp = s.sp - 4#52 ∧ t.loadWord t.sp = s.pc + BitVec.ofNat 52 len := by
  obtain ⟨haccess, rfl⟩ := callSubroutine_eq_next.1 h
  have hsp : ((s.push (s.pc + BitVec.ofNat 52 len)).setPc target).sp = s.sp - 4#52 := by
    rw [State.sp_setPc, State.sp_push]
  refine ⟨?_, hsp, ?_⟩
  · rw [hsp, State.setPc_cfg, State.push_cfg]
    exact (wordRefusal_eq_none _ _).1 haccess
  · rw [hsp, State.loadWord_setPc, State.loadWord_push]

/-- Settles O30: RTS pops the word that the call pushed, if nothing has changed it. -/
theorem callThenReturn : Obligations.CallThenReturn := by
  unfold Obligations.CallThenReturn
  intro s t u i addr ra hi h hcfg hsp hbytes
  have hcall : ∃ target, callSubroutine target i.length s = .next t := by
    rcases hi with rfl | rfl <;> exact ⟨_, h⟩
  obtain ⟨target, hcall⟩ := hcall
  obtain ⟨haccess, htop, hword⟩ := callSubroutine_leaves hcall
  have hsp' : u.sp = t.sp := hsp
  obtain ⟨w, hw, hpc, hret, -⟩ := rts_done (s := u) (by rwa [hcfg, hsp'])
  refine ⟨w, hw, ?_, hret.trans ?_⟩
  · rw [hpc, hsp', ← hword]
    exact State.loadWord_congr hcfg hbytes
  · rw [hsp', htop, BitVec.sub_add_cancel]
    rfl

/-- RTI where the two words from sp on may be read (`43_flow_control.md` R186). -/
theorem rti_done {s : State} (hlow : WordAccessible s.cfg s.sp) (hhigh : WordAccessible s.cfg (s.sp + 4#52)) :
    ∃ t, exec .rti s = .next t ∧ t.sr = unpackSR s.cfg.srPos (s.loadWord s.sp) ∧ t.pc = s.loadWord (s.sp + 4#52) ∧
      t.sp = s.sp + 8#52 ∧ Frame s t [regSp] [.c, .z, .i, .d, .u, .v, .n, .b] := by
  have hrefl := Effect.refl s [regSp] [.c, .z, .i, .d, .u, .v, .n, .b]
  have hpopped := ((hrefl.setSR (sr := unpackSR s.cfg.srPos (s.loadWord s.sp))
    fun f hf => absurd (mem_allFlags f) hf).dropWord (by simp)).dropWord (by simp)
  refine ⟨_, returnFromTrap_eq_next.2 ⟨(wordRefusal_eq_none _ _).2 hlow, (wordRefusal_eq_none _ _).2 hhigh, rfl⟩, ?_, rfl,
    ?_, (hpopped.setPc _).frame⟩
  · rw [State.setPc_sr, State.dropWord_sr, State.dropWord_sr, State.setSR_sr]
  · refine (State.sp_dropWord _).trans ?_
    rw [State.sp_dropWord, BitVec.add_assoc]
    rfl

/-- Settles O31. -/
theorem rtiPopsSrThenPc : Obligations.RtiPopsSrThenPc := by
  unfold Obligations.RtiPopsSrThenPc
  intro s hlow hhigh
  obtain ⟨t, ht, hsr, hpc, hsp, hframe⟩ := rti_done hlow hhigh
  refine ⟨t, ht, ?_, ?_, spRaised_of_eq hsp, hframe⟩
  · rw [hsr, ← State.toNat_loadWord]
    exact flagsFromImage_unpackSR _ _
  · rw [hpc, State.toNat_loadWord]
    rfl

/-! ## NOP, PFI, WAI and STP -/

/-- Settles O33. -/
theorem nopOnlyAdvancesPc : Obligations.NopOnlyAdvancesPc := by
  unfold Obligations.NopOnlyAdvancesPc
  refine ⟨rfl, fun swap w => ?_, fun s => ⟨_, rfl, pcAdvanced_of_eq rfl, (setPc_effect s _).frame⟩⟩
  rw [decodeWord_eq_ok_iff]
  simp [Spells, usedFields, encodeWord, Instr.wellFormed]

/-- Settles O34. -/
theorem pfiUnderItsTwoReadings : Obligations.PfiUnderItsTwoReadings := by
  unfold Obligations.PfiUnderItsTwoReadings
  refine fun s => ⟨fun hnop => ?_, fun hrefuse => ?_⟩
  · exact ⟨_, execPfi_eq_next.2 ⟨hnop, rfl⟩, pcAdvanced_of_eq rfl, (setPc_effect s _).frame⟩
  · show execPfi s = _
    rw [execPfi, hrefuse]

/-- Settles O35. -/
theorem waiAndStpSetTheRunState : Obligations.WaiAndStpSetTheRunState := by
  unfold Obligations.WaiAndStpSetTheRunState
  intro s
  have done : ∀ run, PcAdvanced s { s.advance 1 with run := run } 1 ∧ KeepsRegs s { s.advance 1 with run := run } [] ∧
      KeepsFlags s { s.advance 1 with run := run } [] ∧ StoresNothing s { s.advance 1 with run := run } ∧
      KeepsRest s { s.advance 1 with run := run } := fun run => by
    have heffect := ((Effect.refl s [] []).advance 1).setRun run
    exact ⟨pcAdvanced_of_eq rfl, heffect.regs, heffect.flags, heffect.storesNothing, heffect.rest⟩
  obtain ⟨hpc, hkeeps⟩ := done .waiting
  obtain ⟨hpc', hkeeps'⟩ := done .stopped
  exact ⟨⟨_, rfl, hpc, rfl, hkeeps⟩, ⟨_, rfl, hpc', rfl, hkeeps'⟩⟩

/-! ## The stack instructions -/

/-- Settles O40: PSH sp reads the lowered sp. -/
theorem pushesStoreBelowSp : Obligations.PushesStoreBelowSp := by
  unfold Obligations.PushesStoreBelowSp
  intro s ra haccess
  have hplain := (wordRefusal_eq_none _ _).2 haccess
  have hpc : ∀ v : Word, PcAdvanced s ((s.push v).advance 1) 1 := fun v =>
    pcAdvanced_of_eq (by rw [State.advance_pc, State.push_pc])
  constructor
  · exact ⟨_, _, unlessRefused_eq_next.2 ⟨hplain, rfl⟩, isSRImage_packSR _ _, push_done s _ _, hpc _⟩
  · refine ⟨_, unlessRefused_eq_next.2 ⟨hplain, rfl⟩, ?_, hpc _⟩
    have hvalue : ((s.writeReg regSp (s.sp - 4#52)).readReg ra).toNat =
        if ra = regSp then difference (s.readReg regSp).toNat 4 else (s.readReg ra).toNat := by
      split
      · rename_i hra
        rw [hra, State.readReg_writeReg_same _ _ _ (by decide)]
        exact difference_toNat _ _
      · rw [State.readReg_writeReg_other _ _ _ _ ‹_›]
    rw [← hvalue]
    exact push_done s _ _

/-- PLP where the word at sp may be read (`44_stack.md` R233). -/
theorem plp_done {s : State} (haccess : WordAccessible s.cfg s.sp) :
    ∃ t, exec .plp s = .next t ∧ t.sr = unpackSR s.cfg.srPos (s.loadWord s.sp) ∧ t.sp = s.sp + 4#52 ∧
      t.pc = s.pc + 1#52 ∧ Frame s t [regSp] [.c, .z, .i, .d, .u, .v, .n, .b] := by
  have hrefl := Effect.refl s [regSp] [.c, .z, .i, .d, .u, .v, .n, .b]
  have hpopped := (hrefl.setSR (sr := unpackSR s.cfg.srPos (s.loadWord s.sp))
    fun f hf => absurd (mem_allFlags f) hf).dropWord (by simp)
  refine ⟨_, unlessRefused_eq_next.2 ⟨(wordRefusal_eq_none _ _).2 haccess, rfl⟩, ?_, State.sp_dropWord _, ?_,
    (hpopped.advance 1).frame⟩
  · rw [State.advance_sr, State.dropWord_sr, State.setSR_sr]
  · rw [State.advance_pc, State.dropWord_pc, State.setSR_pc]

/-- Settles O41: POP writes its target after sp. -/
theorem popsRaiseSp : Obligations.PopsRaiseSp := by
  unfold Obligations.PopsRaiseSp
  intro s rt haccess
  constructor
  · obtain ⟨t, ht, hsr, hsp, hpc, hframe⟩ := plp_done haccess
    refine ⟨t, ht, ?_, spRaised_of_eq hsp, pcAdvanced_of_eq hpc, hframe⟩
    rw [hsr, ← State.toNat_loadWord]
    exact flagsFromImage_unpackSR _ _
  · have heffect := (((Effect.refl s [regSp, rt] [.n, .z]).setSR (setNZ_keeps s.sr (s.loadWord s.sp))).dropWord
      (by simp)).writeReg (r := rt) (by simp) (s.loadWord s.sp)
    rw [← State.toNat_loadWord]
    refine ⟨_, unlessRefused_eq_next.2 ⟨(wordRefusal_eq_none _ _).2 haccess, rfl⟩, State.regHolds_writeReg _ rt _,
      fun hrt => spRaised_of_eq ?_, ?_, pcAdvanced_of_eq ?_, (heffect.advance 1).frame⟩
    · exact (State.readReg_writeReg_other _ _ _ _ hrt.symm).trans (State.sp_dropWord _)
    · rw [State.advance_sr, State.writeReg_sr, State.dropWord_sr, State.setSR_sr]
      exact flagsNZOf_setNZ _ _
    · rw [State.advance_pc, State.writeReg_pc, State.dropWord_pc, State.setSR_pc]

/-- What PHP leaves for PLP (`44_stack.md` R231). -/
theorem php_leaves {s t : State} (h : exec .php s = .next t) :
    WordAccessible t.cfg t.sp ∧ t.cfg = s.cfg ∧ t.sp = s.sp - 4#52 ∧ t.loadWord t.sp = packSR s.cfg.srPos s.sr ∧
      t.pc = s.pc + 1#52 ∧ ∀ r, r ≠ regSp → t.readReg r = s.readReg r := by
  obtain ⟨haccess, h⟩ := unlessRefused_eq_next.1 h
  obtain rfl := next_inj.1 h
  have hcfg : ((s.push (packSR s.cfg.srPos s.sr)).advance 1).cfg = s.cfg := by
    rw [State.advance_cfg, State.push_cfg]
  have hsp : ((s.push (packSR s.cfg.srPos s.sr)).advance 1).sp = s.sp - 4#52 := by
    rw [State.sp_advance, State.sp_push]
  refine ⟨?_, hcfg, hsp, ?_, ?_, fun r hr => ?_⟩
  · rw [hcfg, hsp]
    exact (wordRefusal_eq_none _ _).1 haccess
  · rw [hsp, State.loadWord_advance, State.loadWord_push]
  · rw [State.advance_pc, State.push_pc]
  · rw [State.readReg_advance, State.readReg_push, if_neg hr]

/-- Settles O42: PLP pops the image that PHP pushed. -/
theorem phpThenPlpRestoresSr : Obligations.PhpThenPlpRestoresSr := by
  unfold Obligations.PhpThenPlpRestoresSr
  intro s t hlayout h
  obtain ⟨haccess, hcfg, hsp, hword, hpc, hregs⟩ := php_leaves h
  obtain ⟨u, hu, hsr, hsp', hpc', hregs', -⟩ := plp_done haccess
  refine ⟨u, hu, ?_, fun r _ => ?_, pcAdvanced_of_eq ?_⟩
  · rw [hsr, hword, hcfg, unpackSR_packSR hlayout]
  · by_cases hr : r = regSp
    · rw [hr, show u.readReg regSp = _ from hsp', hsp, BitVec.sub_add_cancel]
      rfl
    · rw [hregs' r (by simpa using hr), hregs r hr]
  · rw [hpc', hpc, BitVec.add_assoc]
    rfl

/-! ## REP and SEP -/

/-- The flags a mask writes under the default mapping (`45_status.md` R250). -/
theorem get_writeMasked {cfg : Config} (hsel : cfg.maskSel = .bySrPos) (sr : StatusRegister) (mask : BitVec 7)
    (value : Bool) {f : Flag} (hd : f ≠ .d) (hb : f ≠ .b) :
    (sr.writeMasked cfg mask value).get f = if mask.toNat.testBit (cfg.srPos.of f).val then value else sr.get f := by
  have hmay : maskMayWrite f = true := by
    cases f <;> simp_all [maskMayWrite]
  have hselects : maskSelects cfg mask f = mask.toNat.testBit (cfg.srPos.of f).val := by
    simp only [maskSelects, hsel]
    rw [BitVec.testBit_toNat, Bool.and_eq_right_iff_imp]
    intro hbit
    have := BitVec.lt_of_getLsbD hbit
    rw [decide_eq_true_iff]
    omega
  rw [StatusRegister.writeMasked, StatusRegister.get_ofFlags, hmay, hselects, Bool.true_and]

/-- Settles O43. -/
theorem repAndSepWriteTheMaskedFlags : Obligations.RepAndSepWriteTheMaskedFlags := by
  unfold Obligations.RepAndSepWriteTheMaskedFlags
  intro s mask hsel
  constructor
  · obtain ⟨hpc, hframe⟩ := setFlags_done s 1 (writeMasked_keeps s.sr s.cfg mask false)
    refine ⟨_, rfl, hpc, hframe, fun f hd hb => ?_⟩
    rw [State.advance_sr, State.setSR_sr, get_writeMasked hsel s.sr mask false hd hb]
    split <;> simp [*]
  · obtain ⟨hpc, hframe⟩ := setFlags_done s 1 (writeMasked_keeps s.sr s.cfg mask true)
    refine ⟨_, rfl, hpc, hframe, fun f hd hb => ?_⟩
    rw [State.advance_sr, State.setSR_sr, get_writeMasked hsel s.sr mask true hd hb]
    split <;> simp [*]

end Sys2Proof.Machine
end

section
/-! PROOFS. Traps, as instructions and as requests (`43_flow_control.md` section 4, `60_exceptions.md`). -/

namespace Sys2Proof.Machine

/-! ## What an entry leaves -/

/-- The part that every kind has, of a handler entered from a state with the status register of `s`. -/
theorem enterHandler_entered {s u : State} {kind : TrapKind} {regs : List RegNo} {record : AddressSet}
    {ws : List ByteStore} (hcfg : u.cfg = s.cfg)
    (heffect : Effect s (u.enterHandler kind) regs [.i, .b] .running record ws) :
    HandlerEntered s (u.enterHandler kind) kind := by
  refine ⟨rfl, decide_eq_true_iff, heffect.flags, heffect.run, heffect.rest, ?_⟩
  rw [← State.toNat_loadWord, State.enterHandler_pc, State.loadWord_enterHandler, hcfg]

/-- An entry that pushes (`60_exceptions.md` R320). -/
theorem pushingTrap_done {s : State} {kind : TrapKind} (ret : Word) (hpushes : trapPushes s.cfg kind = true)
    (hret : WordAccessible s.cfg (s.sp - 4#52)) (himage : WordAccessible s.cfg (s.sp - 8#52))
    (hvector : WordAccessible s.cfg (trapVector s.cfg kind)) :
    ∃ t, takeTrap kind ret s = .next t ∧ HandlerEntered s t kind ∧ TrapFramePushed s t ret.toNat ∧
      TrapFrameRecorded s t (if kind = .rst then [] else s.written) := by
  have heffect := pushingTrap_effect s kind ret
  have hspans := spans_trapFrame s.cfg.dataLittleEndian s.sp ret (packSR s.cfg.srPos s.sr)
  refine ⟨_, takeTrap_eq_next.2 ⟨(wordRefusal_eq_none _ _).2 hvector, .inl ⟨hpushes, (wordRefusal_eq_none _ _).2 hret,
    (wordRefusal_eq_none _ _).2 himage, rfl⟩⟩, enterHandler_entered ?_ heffect, ⟨?_, heffect.regs, ?_, ?_, ?_⟩,
    heffect.mem_written_iff hspans⟩
  · rw [State.pushTrapFrame_cfg, State.startRecord_cfg]
  · rw [State.readReg_enterHandler, State.readReg_pushTrapFrame, if_pos rfl, State.sp_startRecord]
    exact difference_toNat _ _
  · refine holdsWord_of_loadWord ?_
    rw [State.loadWord_enterHandler]
    exact State.loadWord_pushTrapFrame_ret (s.startRecord kind) ret
  · rw [← State.toNat_loadWord, State.loadWord_enterHandler]
    have himage := State.loadWord_pushTrapFrame_image (s.startRecord kind) ret
    rw [State.sp_startRecord, State.startRecord_cfg, State.startRecord_sr] at himage
    rw [show s.readReg regSp = s.sp from rfl, himage]
    exact isSRImage_packSR _ _
  · intro a ha
    refine heffect.loadByte_outside hspans fun _ _ e => ?_
    cases e
    exact ha

/-- An entry that pushes nothing. -/
theorem plainTrap_done {s : State} {kind : TrapKind} (ret : Word) (hpushes : trapPushes s.cfg kind = false)
    (hvector : WordAccessible s.cfg (trapVector s.cfg kind)) :
    ∃ t, takeTrap kind ret s = .next t ∧ HandlerEntered s t kind ∧ KeepsRegs s t [] ∧
      (∀ a, t.loadByte a = s.loadByte a) ∧ t.written = if kind = .rst then [] else s.written := by
  have heffect := plainTrap_effect s kind
  exact ⟨_, takeTrap_eq_next.2 ⟨(wordRefusal_eq_none _ _).2 hvector, .inr ⟨hpushes, rfl⟩⟩,
    enterHandler_entered (s.startRecord_cfg kind) heffect, heffect.regs, fun _ => rfl, heffect.written⟩

theorem trapPushes_of_ne_rst (cfg : Config) {kind : TrapKind} (h : kind ≠ .rst) : trapPushes cfg kind = true := by
  simp [trapPushes, h]

/-- The return address of the trap instructions. -/
theorem toNat_pc_add_one (s : State) : (s.pc + 1#52).toNat = (s.pc.toNat + 1) % 2 ^ 52 := by
  rw [BitVec.toNat_add, BitVec.toNat_ofNat, Nat.add_mod_mod]

/-! ## As instructions -/

/-- Settles O36: each of the three is a trap entry that pushes. -/
theorem trapInstructionsEnterTheirHandler : Obligations.TrapInstructionsEnterTheirHandler := by
  unfold Obligations.TrapInstructionsEnterTheirHandler
  intro s const hret himage
  have entry : ∀ kind : TrapKind, kind ≠ .rst → WordAccessible s.cfg (trapVector s.cfg kind) →
      ∃ t, takeTrap kind (s.pc + 1#52) s = .next t ∧ HandlerEntered s t kind ∧
        TrapFramePushed s t ((s.pc.toNat + 1) % 2 ^ 52) ∧ TrapFrameRecorded s t s.written := fun kind hkind hvector => by
    have hdone := pushingTrap_done (s.pc + 1#52) (trapPushes_of_ne_rst s.cfg hkind) hret himage hvector
    rwa [toNat_pc_add_one, if_neg hkind] at hdone
  simp only [List.forall_mem_cons]
  exact ⟨entry .nmi (by decide), entry .irq (by decide), entry .brk (by decide), by simp⟩

/-- Settles O37. -/
theorem rstRestartsAtItsVector : Obligations.RstRestartsAtItsVector := by
  unfold Obligations.RstRestartsAtItsVector
  refine fun s hvector => ⟨fun hplain => ?_, fun hpushes hret himage => ?_⟩
  · exact plainTrap_done (kind := .rst) _ hplain hvector
  · rw [← toNat_pc_add_one]
    exact pushingTrap_done (kind := .rst) _ hpushes hret himage hvector

/-! ## As requests -/

theorem step_of_trap {s : State} {kind : TrapKind} (h : s.boundary = .trap kind) :
    step s = takeTrap kind s.pc s.takeRequests := by
  rw [step, h]

/-- Settles O38: the boundary takes the trap. -/
theorem requestsEnterTheirHandler : Obligations.RequestsEnterTheirHandler := by
  unfold Obligations.RequestsEnterTheirHandler
  refine fun s => ⟨fun kind hrun hrst hkind hret himage hvector => ?_, fun hrst hvector => ?_⟩
  · have hboundary : s.boundary = .trap kind := by
      rcases hkind with ⟨rfl, hnmi⟩ | ⟨rfl, hnmi, hirq, hi⟩ <;> simp [State.boundary, boundaryAction, *]
    have hne : kind ≠ .rst := by
      rcases hkind with ⟨rfl, -⟩ | ⟨rfl, -⟩ <;> decide
    have hdone := pushingTrap_done (s := s.takeRequests) s.pc (trapPushes_of_ne_rst s.cfg hne) hret himage hvector
    rw [step_of_trap hboundary]
    rwa [if_neg hne] at hdone
  · rw [step_of_trap (show s.boundary = .trap .rst by simp [State.boundary, boundaryAction, hrst])]
    exact ⟨fun hplain => plainTrap_done (s := s.takeRequests) (kind := .rst) _ hplain hvector,
      fun hpushes hret himage => pushingTrap_done (s := s.takeRequests) (kind := .rst) _ hpushes hret himage hvector⟩

/-! ## Entry and return -/

/-- What an entry that pushes leaves for RTI (`60_exceptions.md` R324). -/
theorem takeTrap_leaves {kind : TrapKind} {ret : Word} {s t : State} (hpushes : trapPushes s.cfg kind = true)
    (h : takeTrap kind ret s = .next t) :
    WordAccessible t.cfg t.sp ∧ WordAccessible t.cfg (t.sp + 4#52) ∧ t.cfg = s.cfg ∧ t.sp = s.sp - 8#52 ∧
      t.loadWord t.sp = packSR s.cfg.srPos s.sr ∧ t.loadWord (t.sp + 4#52) = ret := by
  obtain ⟨-, ⟨-, hret, himage, rfl⟩ | ⟨hplain, -⟩⟩ := takeTrap_eq_next.1 h
  · have hcfg : (((s.startRecord kind).pushTrapFrame ret).enterHandler kind).cfg = s.cfg := by
      rw [State.enterHandler_cfg, State.pushTrapFrame_cfg, State.startRecord_cfg]
    have hsp : (((s.startRecord kind).pushTrapFrame ret).enterHandler kind).sp = s.sp - 8#52 := by
      rw [State.sp, State.readReg_enterHandler, State.readReg_pushTrapFrame, if_pos rfl, State.sp_startRecord]
    have habove : s.sp - 8#52 + 4#52 = s.sp - 4#52 := by bv_omega
    rw [hcfg, hsp, habove, State.loadWord_enterHandler, State.loadWord_enterHandler]
    exact ⟨(wordRefusal_eq_none _ _).1 himage, (wordRefusal_eq_none _ _).1 hret, rfl, rfl,
      State.loadWord_pushTrapFrame_image (s.startRecord kind) ret,
      State.loadWord_pushTrapFrame_ret (s.startRecord kind) ret⟩
  · rw [hpushes] at hplain
    cases hplain

/-- Settles O39: RTI pops the two words that the entry pushed. -/
theorem rtiUndoesTrapEntry : Obligations.RtiUndoesTrapEntry := by
  unfold Obligations.RtiUndoesTrapEntry
  intro kind ret s t u hlayout hpushes h hcfg hsp hbytes
  obtain ⟨hlow, hhigh, htcfg, htsp, himage, hret⟩ := takeTrap_leaves hpushes h
  have husp : u.sp = t.sp := hsp
  have hword : u.loadWord t.sp = t.loadWord t.sp := State.loadWord_congr hcfg fun k hk => hbytes k (by omega)
  have hword' : u.loadWord (t.sp + 4#52) = t.loadWord (t.sp + 4#52) := State.loadWord_congr hcfg fun k hk => by
    rw [BitVec.add_assoc, show 4#52 + BitVec.ofNat 52 k = BitVec.ofNat 52 (4 + k) from (BitVec.ofNat_add 4 k).symm]
    exact hbytes (4 + k) (by omega)
  obtain ⟨w, hw, hsr, hpc, hwsp, -⟩ := rti_done (s := u) (by rwa [hcfg, husp]) (by rwa [hcfg, husp])
  refine ⟨w, hw, ?_, hwsp.trans ?_, ?_⟩
  · rw [hpc, husp, hword', hret]
  · rw [husp, htsp, BitVec.sub_add_cancel]
    rfl
  · rw [hsr, husp, hword, himage, hcfg, htcfg, unpackSR_packSR hlayout]

end Sys2Proof.Machine
end

section
/-! PROOFS. One element of a string instruction (`46_string.md`): the count and the repeat once, then moves, fills and
compares for words and bytes alike. -/

namespace Sys2Proof.Machine

/-! ## The end of an element: what the count and the repeat leave alone -/

@[simp] theorem State.readReg_repeatWhileCount (s : State) (r : RegNo) : s.repeatWhileCount.readReg r = s.readReg r := by
  rcases s.repeatWhileCount_cases with ⟨-, e⟩ | ⟨-, e⟩ <;> rw [e]
  rfl

@[simp] theorem State.repeatWhileCount_sr (s : State) : s.repeatWhileCount.sr = s.sr := by
  rcases s.repeatWhileCount_cases with ⟨-, e⟩ | ⟨-, e⟩ <;> rw [e]
  rfl

@[simp] theorem State.loadByte_repeatWhileCount (s : State) (a : Word) : s.repeatWhileCount.loadByte a = s.loadByte a := by
  rcases s.repeatWhileCount_cases with ⟨-, e⟩ | ⟨-, e⟩ <;> rw [e]
  rfl

@[simp] theorem State.loadByte_countDown (s : State) (a : Word) : s.countDown.loadByte a = s.loadByte a := by
  simp [State.loadByte]

@[simp] theorem State.readReg_compareUnlessOut (s : State) (t1 t2 : Word) (r : RegNo) :
    (s.compareUnlessOut t1 t2).readReg r = s.readReg r := by
  rcases s.compareUnlessOut_cases t1 t2 with ⟨-, e⟩ | ⟨-, -, e⟩ | ⟨-, -, e⟩ <;> rw [e] <;> rfl

/-! ## The count -/

theorem sub_one_eq_zero_iff (a : Word) : a - 1#52 = 0#52 ↔ a.toNat = 1 := by
  bv_omega

section
variable {s u : State}

theorem countDown_count (hacc : u.readReg regAcc = s.readReg regAcc) :
    u.countDown.readReg regAcc = s.readReg regAcc - 1#52 := by
  rw [State.readReg_countDown, if_pos rfl, hacc]

theorem countedDown_of_eq (h : u.readReg regAcc = s.readReg regAcc - 1#52) : CountedDown s u := by
  rw [CountedDown, h]
  exact difference_toNat _ _

theorem countFlags_of_countDown {t : State} (hsr : u.sr = s.sr) (hcfg : u.cfg = s.cfg)
    (hacc : u.readReg regAcc = s.readReg regAcc) (ht : t.sr = u.countDown.sr) : CountFlags s t := by
  rw [CountFlags, KeepsFlags, KeepsFlags, ht, State.countDown_sr, hcfg, hsr, hacc]
  split
  · exact ⟨flagsOfSub_afterSub _ 1#52 _ _, afterSub_keeps _ _ _ _⟩
  · exact fun _ _ => rfl

/-- The count, its flags and the repeat, after a state that has the pc, the flags and the count of `s`
(`46_string.md` R261, R263). -/
theorem countDown_repeatWhileCount_done (hpc : u.pc = s.pc) (hsr : u.sr = s.sr) (hcfg : u.cfg = s.cfg)
    (hacc : u.readReg regAcc = s.readReg regAcc) :
    CountedDown s u.countDown.repeatWhileCount ∧ CountFlags s u.countDown.repeatWhileCount ∧
      RepeatsUnlessOut s u.countDown.repeatWhileCount := by
  have hcount := countDown_count hacc
  have hone := sub_one_eq_zero_iff (s.readReg regAcc)
  rw [← hcount] at hone
  refine ⟨countedDown_of_eq (by rw [State.readReg_repeatWhileCount, hcount]),
    countFlags_of_countDown hsr hcfg hacc (State.repeatWhileCount_sr _), ?_⟩
  rw [RepeatsUnlessOut]
  rcases u.countDown.repeatWhileCount_cases with ⟨hout, e⟩ | ⟨hmore, e⟩ <;> rw [e]
  · rw [if_pos (hone.1 hout)]
    exact pcAdvanced_of_eq (by rw [State.advance_pc, State.countDown_pc, hpc])
  · rw [if_neg (mt hone.2 hmore), State.countDown_pc, hpc]

end

/-! ## The addresses -/

section
variable (s : State) (x y : Word)

theorem State.readReg_acc_stepXY : ((s.writeReg regX x).writeReg regY y).readReg regAcc = s.readReg regAcc := by
  rw [State.readReg_writeReg_other _ _ _ _ (by decide), State.readReg_writeReg_other _ _ _ _ (by decide)]

theorem State.readReg_x_stepXY : ((s.writeReg regX x).writeReg regY y).readReg regX = x := by
  rw [State.readReg_writeReg_other _ _ _ _ (by decide), State.readReg_writeReg_same _ _ _ (by decide)]

theorem State.readReg_y_stepXY : ((s.writeReg regX x).writeReg regY y).readReg regY = y :=
  State.readReg_writeReg_same _ _ _ (by decide)

end

/-! ## Elements in memory -/

/-- The bytes of an element moved are those of the element read: a byte is extended and cut again. -/
theorem State.loadByte_storeElement_loadElement (s : State) (e : Element) (x y : Word) {k : Nat}
    (hk : k < elementLength e) :
    (s.storeElement e y (s.loadElement e x)).loadByte (y + BitVec.ofNat 52 k) = s.loadByte (x + BitVec.ofNat 52 k) := by
  cases e with
  | word =>
    rw [State.loadByte_eq_wordByte _ _ hk, State.loadByte_eq_wordByte _ _ hk]
    exact congrArg (wordByte _ · k) (s.loadWord_storeWord_same _ _)
  | byte =>
    obtain rfl : k = 0 := Nat.lt_one_iff.1 hk
    rw [BitVec.add_zero, BitVec.add_zero]
    refine (s.loadByte_storeByte _ _ _).trans ((if_pos rfl).trans (BitVec.eq_of_toNat_eq ?_))
    rw [toNat_lowByte]
    exact toNat_extendByte_mod _ _

theorem elementSize_eq (e : Element) : elementSize e = BitVec.ofNat 52 (elementLength e) := by
  cases e <;> rfl

theorem toNat_add_ofNat (a : Word) (n : Nat) : (a + BitVec.ofNat 52 n).toNat = (a.toNat + n) % 2 ^ 52 := by
  rw [BitVec.toNat_add, BitVec.toNat_ofNat, Nat.add_mod_mod]

/-! ## Moves -/

theorem moveElement_done {s : State} {e : Element} (up : Nat) (hx : elementRefusal s.cfg e (s.readReg regX) = none)
    (hy : elementRefusal s.cfg e (s.readReg regY) = none) :
    ∃ t, moveElement e (BitVec.ofNat 52 up) s = .next t ∧ MoveDone s t (elementLength e) up := by
  have heffect := moveElement_effect s e (s.readReg regY) (s.loadElement e (s.readReg regX))
    (s.readReg regX + BitVec.ofNat 52 up) (s.readReg regY + BitVec.ofNat 52 up)
  obtain ⟨hcount, hflags, hrepeat⟩ := countDown_repeatWhileCount_done (s := s)
    (u := ((s.storeElement e (s.readReg regY) (s.loadElement e (s.readReg regX))).writeReg regX
      (s.readReg regX + BitVec.ofNat 52 up)).writeReg regY (s.readReg regY + BitVec.ofNat 52 up))
    (by simp) (by simp) (by simp) (by rw [State.readReg_acc_stepXY, State.readReg_storeElement])
  refine ⟨_, moveElement_eq_next.2 ⟨hx, hy, rfl⟩, fun k hk => ?_, heffect.storesOnly (spans_elementStores _ _ _ _), ?_, ?_,
    hcount, heffect.regs, hflags, hrepeat, heffect.run, heffect.rest⟩
  · rw [← State.loadByte_storeElement_loadElement s e _ (s.readReg regY) hk]
    simp
  · rw [State.readReg_repeatWhileCount, State.readReg_countDown, if_neg (by decide), State.readReg_x_stepXY,
      toNat_add_ofNat]
  · rw [State.readReg_repeatWhileCount, State.readReg_countDown, if_neg (by decide), State.readReg_y_stepXY,
      toNat_add_ofNat]

/-- Settles O44: the four are one move, up or down, of words or of bytes. -/
theorem movesOneElement : Obligations.MovesOneElement := by
  unfold Obligations.MovesOneElement
  refine fun s => ⟨fun hx hy => ?_, fun hx hy => ?_⟩
  · have move := fun up => moveElement_done (e := .word) up ((wordRefusal_eq_none _ _).2 hx) ((wordRefusal_eq_none _ _).2 hy)
    exact ⟨move 4, move (2 ^ 52 - 4)⟩
  · have move := fun up => moveElement_done (e := .byte) up ((byteRefusal_eq_none _ _).2 hx) ((byteRefusal_eq_none _ _).2 hy)
    exact ⟨move 1, move (2 ^ 52 - 1)⟩

/-! ## Fills -/

theorem fillElement_done {s : State} {e : Element} (hy : elementRefusal s.cfg e (s.readReg regY) = none) :
    ∃ t, fillElement e s = .next t ∧
      (∀ a, t.loadByte a = (s.storeElement e (s.readReg regY) (s.readReg regX)).loadByte a) ∧
      FillDone s t (elementLength e) := by
  have heffect := fillElement_effect s e (s.readReg regY) (s.readReg regX) (s.readReg regY + elementSize e)
  obtain ⟨hcount, hflags, hrepeat⟩ := countDown_repeatWhileCount_done (s := s)
    (u := (s.storeElement e (s.readReg regY) (s.readReg regX)).writeReg regY (s.readReg regY + elementSize e))
    (by simp) (by simp) (by simp)
    (by rw [State.readReg_writeReg_other _ _ _ _ (by decide), State.readReg_storeElement])
  refine ⟨_, fillElement_eq_next.2 ⟨hy, rfl⟩, fun a => by simp, heffect.storesOnly (spans_elementStores _ _ _ _), ?_,
    hcount, heffect.regs, hflags, hrepeat, heffect.run, heffect.rest⟩
  rw [State.readReg_repeatWhileCount, State.readReg_countDown, if_neg (by decide),
    State.readReg_writeReg_same _ _ _ (by decide), elementSize_eq, toNat_add_ofNat]

theorem sts_done {s : State} (hy : WordAccessible s.cfg (s.readReg regY)) :
    ∃ t, exec .sts s = .next t ∧ t.loadWord (s.readReg regY) = s.readReg regX ∧ FillDone s t 4 := by
  obtain ⟨t, ht, hbytes, hdone⟩ := fillElement_done (e := .word) ((wordRefusal_eq_none _ _).2 hy)
  obtain ⟨-, -, -, -, -, -, -, hcfg, -⟩ := id hdone
  refine ⟨t, ht, ?_, hdone⟩
  rw [State.loadWord_congr (s := s.storeWord _ _) hcfg fun k _ => hbytes _]
  exact s.loadWord_storeWord_same _ _

/-- Settles O45. -/
theorem fillsOneElement : Obligations.FillsOneElement := by
  unfold Obligations.FillsOneElement
  refine fun s => ⟨fun hy => ?_, fun hy => ?_⟩
  · obtain ⟨t, ht, hword, hdone⟩ := sts_done hy
    exact ⟨t, ht, holdsWord_of_loadWord hword, hdone⟩
  · obtain ⟨t, ht, hbytes, hdone⟩ := fillElement_done (e := .byte) ((byteRefusal_eq_none _ _).2 hy)
    refine ⟨t, ht, ?_, hdone⟩
    rw [hbytes, ← toNat_lowByte]
    exact congrArg _ ((s.loadByte_storeByte _ _ _).trans (if_pos rfl))

/-! ## Compares -/

theorem sub_eq_zero_iff_toNat (a b : Word) : a - b = 0#52 ↔ a.toNat = b.toNat := by
  bv_omega

/-- The flags of a compare after those of the count (`46_string.md` R267, log entry 36). -/
theorem countDown_afterCompare_done {s u t : State} {t1 t2 : Word} (hsr : u.sr = s.sr) (hcfg : u.cfg = s.cfg)
    (hacc : u.readReg regAcc = s.readReg regAcc) (ht : t.sr = u.countDown.sr.afterCompare s.cfg t1 t2)
    (hkeeps : KeepsFlags s t (if s.cfg.stringFlagsFromCount then [.c, .v, .n, .z] else [.c, .n, .z])) :
    FlagsOfCompare s.cfg t.sr t1.toNat t2.toNat ∧
      (if s.cfg.stringFlagsFromCount then
        (t.sr.v = true ↔ SignedOverflow (signedValue (s.readReg regAcc).toNat - 1)) ∧ KeepsFlags s t [.c, .v, .n, .z]
      else KeepsFlags s t [.c, .n, .z]) := by
  refine ⟨ht ▸ flagsOfCompare_afterCompare t1 t2 _ _, ?_⟩
  cases hcount : s.cfg.stringFlagsFromCount <;> rw [hcount] at hkeeps
  · exact hkeeps
  · refine ⟨?_, hkeeps⟩
    have hv : t.sr.v = (s.sr.afterSub s.cfg (s.readReg regAcc) 1#52).v := by
      rw [ht, State.countDown_sr, hcfg, hcount, hsr, hacc]
      rfl
    rw [hv]
    exact (flagsOfSub_afterSub (s.readReg regAcc) 1#52 s.sr s.cfg).2

/-- The end of a compare, after a state that has the pc, the flags and the count of `s` (`46_string.md` R267, R268). -/
theorem countDown_compareUnlessOut_done {s u : State} {t1 t2 : Word} (hpc : u.pc = s.pc) (hsr : u.sr = s.sr)
    (hcfg : u.cfg = s.cfg) (hacc : u.readReg regAcc = s.readReg regAcc)
    (hkeeps : KeepsFlags s (u.countDown.compareUnlessOut t1 t2)
      (if s.cfg.stringFlagsFromCount then [.c, .v, .n, .z] else [.c, .n, .z])) :
    if (s.readReg regAcc).toNat = 1 then
      CountFlags s (u.countDown.compareUnlessOut t1 t2) ∧ PcAdvanced s (u.countDown.compareUnlessOut t1 t2) 1
    else
      FlagsOfCompare s.cfg (u.countDown.compareUnlessOut t1 t2).sr t1.toNat t2.toNat ∧
        (if t1.toNat = t2.toNat then (u.countDown.compareUnlessOut t1 t2).pc = s.pc
        else PcAdvanced s (u.countDown.compareUnlessOut t1 t2) 1) ∧
        (if s.cfg.stringFlagsFromCount then
          ((u.countDown.compareUnlessOut t1 t2).sr.v = true ↔
            SignedOverflow (signedValue (s.readReg regAcc).toNat - 1)) ∧
            KeepsFlags s (u.countDown.compareUnlessOut t1 t2) [.c, .v, .n, .z]
        else KeepsFlags s (u.countDown.compareUnlessOut t1 t2) [.c, .n, .z]) := by
  have hone := sub_one_eq_zero_iff (s.readReg regAcc)
  rw [← countDown_count hacc] at hone
  have hnext : PcAdvanced s (u.countDown.advance 1) 1 :=
    pcAdvanced_of_eq (by rw [State.advance_pc, State.countDown_pc, hpc])
  have hcompared : u.countDown.sr.afterCompare u.countDown.cfg t1 t2 = u.countDown.sr.afterCompare s.cfg t1 t2 := by
    rw [State.countDown_cfg, hcfg]
  rcases u.countDown.compareUnlessOut_cases t1 t2 with ⟨hout, e⟩ | ⟨hmore, heq, e⟩ | ⟨hmore, hne, e⟩ <;>
    rw [e] at hkeeps ⊢
  · rw [if_pos (hone.1 hout)]
    exact ⟨countFlags_of_countDown hsr hcfg hacc rfl, hnext⟩
  · obtain ⟨hcompare, hrest⟩ := countDown_afterCompare_done hsr hcfg hacc hcompared hkeeps
    rw [if_neg (mt hone.2 hmore), if_pos ((sub_eq_zero_iff_toNat _ _).1 heq)]
    exact ⟨hcompare, u.countDown_pc.trans hpc, hrest⟩
  · obtain ⟨hcompare, hrest⟩ := countDown_afterCompare_done hsr hcfg hacc hcompared hkeeps
    rw [if_neg (mt hone.2 hmore), if_neg (mt (sub_eq_zero_iff_toNat _ _).2 hne)]
    exact ⟨hcompare, hnext, hrest⟩

theorem compareElement_done {s : State} {e : Element} (hx : elementRefusal s.cfg e (s.readReg regX) = none)
    (hy : elementRefusal s.cfg e (s.readReg regY) = none) :
    ∃ t, compareElement e s = .next t ∧
      CompareDone s t (elementLength e) (s.loadElement e (s.readReg regX)).toNat
        (s.loadElement e (s.readReg regY)).toNat := by
  have heffect := compareElement_effect s (s.loadElement e (s.readReg regX)) (s.loadElement e (s.readReg regY))
    (s.readReg regX + elementSize e) (s.readReg regY + elementSize e)
  refine ⟨_, compareElement_eq_next.2 ⟨hx, hy, rfl⟩, ?_, ?_, ?_, heffect.regs, heffect.storesNothing, heffect.run,
    heffect.rest, countDown_compareUnlessOut_done (by simp) (by simp) (by simp) (s.readReg_acc_stepXY _ _) heffect.flags⟩
  · rw [State.readReg_compareUnlessOut, State.readReg_countDown, if_neg (by decide), State.readReg_x_stepXY,
      elementSize_eq, toNat_add_ofNat]
  · rw [State.readReg_compareUnlessOut, State.readReg_countDown, if_neg (by decide), State.readReg_y_stepXY,
      elementSize_eq, toNat_add_ofNat]
  · exact countedDown_of_eq (by rw [State.readReg_compareUnlessOut, countDown_count (s.readReg_acc_stepXY _ _)])

/-- Settles O46. -/
theorem comparesOneElement : Obligations.ComparesOneElement := by
  unfold Obligations.ComparesOneElement
  refine fun s => ⟨fun hx hy => ?_, fun hx hy => ?_⟩
  · have hdone := compareElement_done (e := .word) ((wordRefusal_eq_none _ _).2 hx) ((wordRefusal_eq_none _ _).2 hy)
    rwa [State.loadElement, State.loadElement, State.toNat_loadWord, State.toNat_loadWord] at hdone
  · have hdone := compareElement_done (e := .byte) ((byteRefusal_eq_none _ _).2 hx) ((byteRefusal_eq_none _ _).2 hy)
    rwa [State.loadElement, State.loadElement, toNat_extendByte, toNat_extendByte] at hdone

end Sys2Proof.Machine
end

section
/-! PROOFS. A string instruction executed as often as its count says (`46_string.md` R261): induction on the count, the
first element and then the rest. -/

namespace Sys2Proof.Machine

/-! ## Repeated execution -/

theorem execTimes_succ {i : Instr} {s u : State} (h : exec i s = .next u) (n : Nat) :
    execTimes i (n + 1) s = execTimes i n u := by
  rw [execTimes, h]

theorem execTimes_cfg {i : Instr} {n : Nat} {s t : State} (h : execTimes i n s = .next t) : t.cfg = s.cfg := by
  induction n generalizing s with
  | zero => rw [next_inj.1 h]
  | succ n ih =>
    rw [execTimes] at h
    split at h
    · rename_i u hu
      obtain ⟨_, heffect, -⟩ := exec_footprint hu
      exact (ih h).trans heffect.rest.1
    · cases h
    · cases h

/-! ## Words and addresses of a block -/

theorem memWord_congr {s t : State} {a b : Word} (hcfg : t.cfg = s.cfg)
    (h : ∀ k < 4, t.loadByte (a + BitVec.ofNat 52 k) = s.loadByte (b + BitVec.ofNat 52 k)) : memWord t a = memWord s b := by
  rw [← State.toNat_loadWord, ← State.toNat_loadWord, State.loadWord_congr hcfg h]

/-- The words behind the first are those of the block that begins at the second. -/
theorem add_four_mul_succ (a : Word) (k : Nat) :
    a + BitVec.ofNat 52 (4 * (k + 1)) = a + BitVec.ofNat 52 4 + BitVec.ofNat 52 (4 * k) := by
  rw [BitVec.add_assoc, ← BitVec.ofNat_add, Nat.add_comm 4, Nat.mul_succ]

/-- The first word of a block no larger than the address space is none of the words behind it. -/
theorem first_word_outside_rest (y : Word) {n k : Nat} (hn : 4 * (n + 1) ≤ 2 ^ 52) (hk : k < 4) :
    4 * n ≤ (y + BitVec.ofNat 52 k - (y + BitVec.ofNat 52 4)).toNat := by
  have hlt := y.isLt
  rw [BitVec.toNat_sub, toNat_add_ofNat, toNat_add_ofNat]
  omega

/-- Outside a block is outside its first word, and outside the rest. -/
theorem outside_block {a y : Word} {n : Nat} (h : 4 * (n + 1) ≤ (a - y).toNat) :
    4 ≤ (a - y).toNat ∧ 4 * n ≤ (a - (y + BitVec.ofNat 52 4)).toNat := by
  have hy := y.isLt
  have ha := a.isLt
  rw [BitVec.toNat_sub] at h ⊢
  rw [BitVec.toNat_sub, toNat_add_ofNat]
  omega

/-! ## The count and pc -/

theorem countedDown_toNat {s u : State} {n : Nat} (hacc : (s.readReg regAcc).toNat = n + 1) (h : CountedDown s u) :
    (u.readReg regAcc).toNat = n := by
  have hlt := (s.readReg regAcc).isLt
  rw [h, hacc, difference]
  omega

/-- pc stays at the instruction until the last element. -/
theorem pcAdvanced_of_repeats {s u t : State} {n : Nat} (hacc : (s.readReg regAcc).toNat = n + 1)
    (hfirst : RepeatsUnlessOut s u) (hrest : if n = 0 then t = u else PcAdvanced u t 1) : PcAdvanced s t 1 := by
  rw [RepeatsUnlessOut, hacc] at hfirst
  by_cases hn : n = 0
  · rw [if_pos hn] at hrest
    rw [if_pos (by omega)] at hfirst
    rwa [hrest]
  · rw [if_neg hn] at hrest
    rw [if_neg (by omega)] at hfirst
    rwa [PcAdvanced, hfirst] at hrest

theorem eq_add_of_toNat {a b : Word} {n : Nat} (h : a.toNat = (b.toNat + n) % 2 ^ 52) : a = b + BitVec.ofNat 52 n :=
  BitVec.eq_of_toNat_eq (h.trans (toNat_add_ofNat b n).symm)

theorem add_ofNat_zero (a : Word) : a + BitVec.ofNat 52 (4 * 0) = a := BitVec.add_zero a

theorem KeepsRegs.trans {s u t : State} {regs : List RegNo} (h : KeepsRegs s u regs) (h' : KeepsRegs u t regs) :
    KeepsRegs s t regs := fun r hr => (h' r hr).trans (h r hr)

/-! ## STS -/

theorem sts_repeated (n : Nat) (s : State) (hn : 4 * n ≤ 2 ^ 52) (hacc : (s.readReg regAcc).toNat = n)
    (haccess : ∀ k < n, WordAccessible s.cfg (s.readReg regY + BitVec.ofNat 52 (4 * k))) :
    ∃ t, execTimes .sts n s = .next t ∧
      (∀ k < n, memWord t (s.readReg regY + BitVec.ofNat 52 (4 * k)) = (s.readReg regX).toNat) ∧
      (∀ a : Word, 4 * n ≤ (a - s.readReg regY).toNat → t.loadByte a = s.loadByte a) ∧
      t.readReg regAcc = 0#52 ∧ t.readReg regY = s.readReg regY + BitVec.ofNat 52 (4 * n) ∧
      KeepsRegs s t [regAcc, regY] ∧ if n = 0 then t = s else PcAdvanced s t 1 := by
  induction n generalizing s with
  | zero =>
    exact ⟨s, rfl, fun k hk => absurd hk k.not_lt_zero, fun _ _ => rfl, BitVec.eq_of_toNat_eq hacc,
      (add_ofNat_zero _).symm, fun _ _ => rfl, rfl⟩
  | succ n ih =>
    obtain ⟨u, hu, hword, ⟨houtside, -⟩, hy, hcount, hregs, -, hrepeat, -, hcfg, -⟩ :=
      sts_done (s := s) (by simpa using haccess 0 n.succ_pos)
    have hy := eq_add_of_toNat hy
    have hx : u.readReg regX = s.readReg regX := hregs regX (by decide)
    obtain ⟨t, ht, hwords, houtside', hacc', hy', hregs', hpc⟩ := ih u (by omega) (countedDown_toNat hacc hcount)
      fun k hk => by
        rw [hcfg, hy, ← add_four_mul_succ]
        exact haccess (k + 1) (by omega)
    rw [hy] at hwords houtside' hy'
    refine ⟨t, (execTimes_succ hu n).trans ht, fun k hk => ?_, fun a ha => ?_, hacc', ?_, hregs.trans hregs', ?_⟩
    · cases k with
      | zero =>
        have hkept : memWord t (s.readReg regY) = memWord u (s.readReg regY) :=
          memWord_congr (execTimes_cfg ht) fun j hj => houtside' _ (first_word_outside_rest _ hn hj)
        rw [add_ofNat_zero, hkept, ← State.toNat_loadWord, hword]
      | succ k => rw [add_four_mul_succ, hwords k (by omega), hx]
    · obtain ⟨hfirst, hrest⟩ := outside_block ha
      rw [houtside' a hrest, houtside a hfirst]
    · rw [hy', ← add_four_mul_succ]
    · rw [if_neg n.succ_ne_zero]
      exact pcAdvanced_of_repeats hacc hrepeat hpc

/-- Settles O47. -/
theorem stsFillsTheBlock : Obligations.StsFillsTheBlock := by
  unfold Obligations.StsFillsTheBlock
  intro s n hpos hn hacc haccess
  have h := sts_repeated n s hn hacc haccess
  simpa only [if_neg hpos.ne'] using h

/-! ## MVN -/

/-- Source words behind the first keep clear of the first destination word: the destination does not begin inside the
source above its first word. -/
theorem source_outside_first_word {x y : Word} {n k j : Nat} (hn : (x - y).toNat + 4 * (n + 1) ≤ 2 ^ 52) (hk : k < n)
    (hj : j < 4) : 4 ≤ (x + BitVec.ofNat 52 4 + BitVec.ofNat 52 (4 * k) + BitVec.ofNat 52 j - y).toNat := by
  have hx := x.isLt
  have hy := y.isLt
  rw [BitVec.toNat_sub] at hn
  rw [BitVec.toNat_sub, toNat_add_ofNat, toNat_add_ofNat, toNat_add_ofNat]
  omega

theorem mvn_repeated (n : Nat) (s : State) (hn : (s.readReg regX - s.readReg regY).toNat + 4 * n ≤ 2 ^ 52)
    (hacc : (s.readReg regAcc).toNat = n)
    (haccess : ∀ k < n, WordAccessible s.cfg (s.readReg regX + BitVec.ofNat 52 (4 * k)) ∧
      WordAccessible s.cfg (s.readReg regY + BitVec.ofNat 52 (4 * k))) :
    ∃ t, execTimes .mvn n s = .next t ∧
      (∀ k < n, memWord t (s.readReg regY + BitVec.ofNat 52 (4 * k)) =
        memWord s (s.readReg regX + BitVec.ofNat 52 (4 * k))) ∧
      (∀ a : Word, 4 * n ≤ (a - s.readReg regY).toNat → t.loadByte a = s.loadByte a) ∧
      t.readReg regAcc = 0#52 ∧ t.readReg regX = s.readReg regX + BitVec.ofNat 52 (4 * n) ∧
      t.readReg regY = s.readReg regY + BitVec.ofNat 52 (4 * n) ∧ KeepsRegs s t [regAcc, regX, regY] ∧
      if n = 0 then t = s else PcAdvanced s t 1 := by
  induction n generalizing s with
  | zero =>
    exact ⟨s, rfl, fun k hk => absurd hk k.not_lt_zero, fun _ _ => rfl, BitVec.eq_of_toNat_eq hacc,
      (add_ofNat_zero _).symm, (add_ofNat_zero _).symm, fun _ _ => rfl, rfl⟩
  | succ n ih =>
    obtain ⟨hx0, hy0⟩ := haccess 0 n.succ_pos
    rw [add_ofNat_zero] at hx0 hy0
    obtain ⟨u, hu, hbytes, ⟨houtside, -⟩, hx, hy, hcount, hregs, -, hrepeat, -, hcfg, -⟩ :=
      ((movesOneElement s).1 hx0 hy0).1
    have hx := eq_add_of_toNat hx
    have hy := eq_add_of_toNat hy
    have hdistance : u.readReg regX - u.readReg regY = s.readReg regX - s.readReg regY := by
      rw [hx, hy]
      bv_omega
    obtain ⟨t, ht, hwords, houtside', hacc', hx', hy', hregs', hpc⟩ := ih u (by rw [hdistance]; omega)
      (countedDown_toNat hacc hcount) fun k hk => by
        rw [hcfg, hx, hy, ← add_four_mul_succ, ← add_four_mul_succ]
        exact haccess (k + 1) (by omega)
    rw [hy] at hwords houtside' hy'
    rw [hx] at hwords hx'
    refine ⟨t, (execTimes_succ hu n).trans ht, fun k hk => ?_, fun a ha => ?_, hacc', ?_, ?_, hregs.trans hregs', ?_⟩
    · cases k with
      | zero =>
        have hkept : memWord t (s.readReg regY) = memWord u (s.readReg regY) :=
          memWord_congr (execTimes_cfg ht) fun j hj => houtside' _ (first_word_outside_rest _ (by omega) hj)
        rw [add_ofNat_zero, add_ofNat_zero, hkept, memWord_congr hcfg hbytes]
      | succ k =>
        rw [add_four_mul_succ, add_four_mul_succ, hwords k (by omega)]
        exact memWord_congr hcfg fun j hj => houtside _ (source_outside_first_word hn (by omega) hj)
    · obtain ⟨hfirst, hrest⟩ := outside_block ha
      rw [houtside' a hrest]
      exact houtside a hfirst
    · rw [hx', ← add_four_mul_succ]
    · rw [hy', ← add_four_mul_succ]
    · rw [if_neg n.succ_ne_zero]
      exact pcAdvanced_of_repeats hacc hrepeat hpc

/-- Settles O48. -/
theorem mvnCopiesTheBlock : Obligations.MvnCopiesTheBlock := by
  unfold Obligations.MvnCopiesTheBlock
  intro s n hpos hn hacc haccess
  have h := mvn_repeated n s hn hacc haccess
  simpa only [if_neg hpos.ne'] using h

/-! ## CMPS -/

/-- The flags c n z of a comparison of equal elements (`40_arith_logic.md` R125). -/
def FlagsOfEqual (cfg : Config) (sr : StatusRegister) : Prop :=
  sr.z = true ∧ sr.n = false ∧ sr.c = cfg.subCarryIsNotBorrow

theorem flagsOfEqual_of_compare {cfg : Config} {sr : StatusRegister} {a : Nat} (h : FlagsOfCompare cfg sr a a) :
    FlagsOfEqual cfg sr := by
  obtain ⟨hc, hn, hz⟩ := h
  have hzero : difference a a = 0 := by
    rw [difference, Nat.add_sub_cancel_left, Nat.mod_self]
  rw [hzero] at hn hz
  refine ⟨hz.2 rfl, by simpa using hn, ?_⟩
  rw [CarryOfSub] at hc
  cases hcarry : cfg.subCarryIsNotBorrow <;> simpa [hcarry] using hc

/-- A compare that repeats over equal elements: every compare but the last sets the flags of an equal comparison, and
the last is not made. -/
theorem cmps_repeated (n : Nat) (s : State) (hacc : (s.readReg regAcc).toNat = n + 1)
    (hflags : s.cfg.stringFlagsFromCount = false)
    (haccess : ∀ k ≤ n, WordAccessible s.cfg (s.readReg regX + BitVec.ofNat 52 (4 * k)) ∧
      WordAccessible s.cfg (s.readReg regY + BitVec.ofNat 52 (4 * k)))
    (hequal : ∀ k < n, memWord s (s.readReg regX + BitVec.ofNat 52 (4 * k)) =
      memWord s (s.readReg regY + BitVec.ofNat 52 (4 * k))) :
    ∃ t, execTimes .cmps (n + 1) s = .next t ∧ t.readReg regAcc = 0#52 ∧
      (0 < n ∨ FlagsOfEqual s.cfg s.sr → FlagsOfEqual s.cfg t.sr) ∧ t.sr.v = s.sr.v ∧
      t.readReg regX = s.readReg regX + BitVec.ofNat 52 (4 * (n + 1)) ∧
      t.readReg regY = s.readReg regY + BitVec.ofNat 52 (4 * (n + 1)) ∧ PcAdvanced s t 1 ∧
      ∀ a, t.loadByte a = s.loadByte a := by
  induction n generalizing s with
  | zero =>
    obtain ⟨hx0, hy0⟩ := haccess 0 le_rfl
    rw [add_ofNat_zero] at hx0 hy0
    obtain ⟨t, ht, hx, hy, hcount, -, ⟨hmem, -⟩, -, -, hend⟩ :=
      (comparesOneElement s).1 hx0 hy0
    rw [if_pos hacc, CountFlags, hflags, if_neg (by decide)] at hend
    obtain ⟨hkept, hpc⟩ := hend
    have hkept : ∀ f, t.sr.get f = s.sr.get f := fun f => hkept f (by simp)
    refine ⟨t, execTimes_succ ht 0, BitVec.eq_of_toNat_eq (countedDown_toNat hacc hcount), fun heq => ?_, hkept .v,
      eq_add_of_toNat hx, eq_add_of_toNat hy, hpc, fun a => hmem _⟩
    obtain ⟨hz, hn, hc⟩ := heq.resolve_left (lt_irrefl 0)
    exact ⟨(hkept .z).trans hz, (hkept .n).trans hn, (hkept .c).trans hc⟩
  | succ n ih =>
    obtain ⟨hx0, hy0⟩ := haccess 0 (Nat.zero_le _)
    have hequal0 := hequal 0 n.succ_pos
    rw [add_ofNat_zero] at hx0 hy0
    rw [add_ofNat_zero, add_ofNat_zero] at hequal0
    obtain ⟨u, hu, hx, hy, hcount, -, ⟨hmem, -⟩, -, ⟨hcfg, -⟩, hend⟩ :=
      (comparesOneElement s).1 hx0 hy0
    rw [hequal0, if_pos rfl, hflags, if_neg (by omega), if_neg (by decide)] at hend
    obtain ⟨hcompare, hpc, hkept⟩ := hend
    have hx := eq_add_of_toNat hx
    have hy := eq_add_of_toNat hy
    obtain ⟨t, ht, hacc', hsr, hv, hx', hy', hpc', hmem'⟩ := ih u (countedDown_toNat hacc hcount) (hcfg ▸ hflags)
      (fun k hk => by
        rw [hcfg, hx, hy, ← add_four_mul_succ, ← add_four_mul_succ]
        exact haccess (k + 1) (by omega))
      (fun k hk => by
        rw [memWord_congr hcfg fun j _ => hmem _, memWord_congr (a := u.readReg regY + _) hcfg fun j _ => hmem _, hx, hy,
          ← add_four_mul_succ, ← add_four_mul_succ]
        exact hequal (k + 1) (by omega))
    rw [hcfg] at hsr
    refine ⟨t, (execTimes_succ hu (n + 1)).trans ht, hacc', fun _ => hsr (.inr (flagsOfEqual_of_compare hcompare)),
      hv.trans (hkept .v (by decide)), ?_, ?_, ?_, fun a => (hmem' a).trans (hmem _)⟩
    · rw [hx', hx, add_four_mul_succ _ (n + 1)]
    · rw [hy', hy, add_four_mul_succ _ (n + 1)]
    · rwa [PcAdvanced, hpc] at hpc'

/-- Settles O49. -/
theorem cmpsOfEqualStrings : Obligations.CmpsOfEqualStrings := by
  unfold Obligations.CmpsOfEqualStrings
  intro s n hpos hacc hflags haccess hequal
  obtain ⟨t, ht, hacc', hsr, hrest⟩ := cmps_repeated n s hacc hflags haccess hequal
  obtain ⟨hz, hn, hc⟩ := hsr (.inl hpos)
  exact ⟨t, ht, hacc', hz, hn, hc, hrest⟩

end Sys2Proof.Machine
end

section
/-! PROOFS. The printed micro-op lists (`49_microops.md`): the words they are dispatched from, and what running them
does. -/

namespace Sys2Proof.Machine

/-! ## Dispatch -/

theorem microIndex_eq_append_iff (ins : Word) (code : BitVec 3) (opcode : BitVec 6) :
    microIndex ins = code ++ opcode ↔ field ins 0 6 = opcode ∧ field ins 6 3 = code := by
  rw [microIndex_eq]
  constructor
  · intro h
    have hlow : (field ins 6 3 ++ field ins 0 6).extractLsb' 0 6 = (code ++ opcode).extractLsb' 0 6 := by rw [h]
    have hhigh : (field ins 6 3 ++ field ins 0 6).extractLsb' 6 3 = (code ++ opcode).extractLsb' 6 3 := by rw [h]
    rw [BitVec.extractLsb'_append_eq_right, BitVec.extractLsb'_append_eq_right] at hlow
    rw [BitVec.extractLsb'_append_eq_left, BitVec.extractLsb'_append_eq_left] at hhigh
    exact ⟨hlow, hhigh⟩
  · rintro ⟨rfl, rfl⟩
    rfl

section
variable (swap : Bool) (ins : Word)

theorem decodeWord_eq_mvn_iff : decodeWord swap ins = .ok .mvn ↔ microIndex ins = 0o445#9 := by
  rw [decodeWord_eq_ok_iff, show 0o445#9 = 4#3 ++ 0o45#6 from rfl, microIndex_eq_append_iff]
  simp [Spells, usedFields, encodeWord, Instr.wellFormed]

theorem decodeWord_eq_mvp_iff : decodeWord swap ins = .ok .mvp ↔ microIndex ins = 0o545#9 := by
  rw [decodeWord_eq_ok_iff, show 0o545#9 = 5#3 ++ 0o45#6 from rfl, microIndex_eq_append_iff]
  simp [Spells, usedFields, encodeWord, Instr.wellFormed]

theorem decodeWord_eq_sts_iff : decodeWord swap ins = .ok .sts ↔ microIndex ins = 0o645#9 := by
  rw [decodeWord_eq_ok_iff, show 0o645#9 = 6#3 ++ 0o45#6 from rfl, microIndex_eq_append_iff]
  simp [Spells, usedFields, encodeWord, Instr.wellFormed]

theorem decodeWord_eq_cmps_iff : decodeWord swap ins = .ok .cmps ↔ microIndex ins = 0o745#9 := by
  rw [decodeWord_eq_ok_iff, show 0o745#9 = 7#3 ++ 0o45#6 from rfl, microIndex_eq_append_iff]
  simp [Spells, usedFields, encodeWord, Instr.wellFormed]

theorem decodeWord_eq_brk_iff : (∃ const, decodeWord swap ins = .ok (.brk const)) ↔ microIndex ins = 0o334#9 := by
  rw [show 0o334#9 = 3#3 ++ 0o34#6 from rfl, microIndex_eq_append_iff]
  simp [decodeWord_eq_ok_iff, Spells, usedFields, encodeWord, Instr.wellFormed]

end

theorem microDispatch_isSome_iff (ins : Word) : (microDispatch ins).isSome = true ↔
    microIndex ins = 0o334#9 ∨ microIndex ins = 0o445#9 ∨ microIndex ins = 0o545#9 ∨ microIndex ins = 0o645#9 ∨
      microIndex ins = 0o745#9 := by
  simp [Option.isSome_iff_exists, microDispatch_eq_some, exists_or]

theorem runMicro_of_dispatch {ins : Word} {ops : List MicroOp} (h : microDispatch ins = some ops) (tmp1 tmp2 : Word)
    (s : State) : runMicro ins tmp1 tmp2 s =
      runMicroOps ops { machine := s, instruction := ins, tmp1 := tmp1, tmp2 := tmp2, zero := false } := by
  rw [runMicro, h]
  rfl

/-! ## The lines that the lists share -/

/-- The line of the count is the count of the instructions (`46_string.md` R263). -/
theorem runMicroOps_count (rest : List MicroOp) (m : MicroState) :
    runMicroOps (.sub .acc .acc 1#52 :: rest) m =
      runMicroOps rest (MicroState.testZero { m with machine := m.machine.countDown }
        (m.machine.countDown.readReg regAcc)) := by
  rw [State.readReg_countDown, if_pos rfl]
  cases h : m.machine.cfg.stringFlagsFromCount
  · simp [runMicroOps, MicroState.countFlags, MicroState.write, MicroState.read, State.countDown, h]
    rfl
  · simp [runMicroOps, MicroState.countFlags, MicroState.write, MicroState.read, State.countDown, h]

/-- The last two lines of a move and of a fill. -/
theorem runMicroOps_countAndRepeat (m : MicroState) :
    runMicroOps [.sub .acc .acc 1#52, .bne .pc] m = some (.next m.machine.countDown.repeatWhileCount) := by
  rw [runMicroOps_count]
  rcases m.machine.countDown.repeatWhileCount_cases with ⟨hout, e⟩ | ⟨hmore, e⟩ <;> rw [e]
  · simp [runMicroOps, MicroState.testZero, hout]
  · simp [runMicroOps, MicroState.testZero, hmore, MicroState.goTo, MicroState.read, -State.countDown_pc]
    rfl

/-- The last four lines of a compare. -/
theorem runMicroOps_countAndCompare (m : MicroState) :
    runMicroOps [.sub .acc .acc 1#52, .beq .pcPlus1, .cmp .tmp1 .tmp2, .beq .pc] m =
      some (.next (m.machine.countDown.compareUnlessOut m.tmp1 m.tmp2)) := by
  rw [runMicroOps_count]
  rcases m.machine.countDown.compareUnlessOut_cases m.tmp1 m.tmp2 with ⟨hout, e⟩ | ⟨hmore, heq, e⟩ | ⟨hmore, hne, e⟩ <;>
    rw [e]
  · simp [runMicroOps, MicroState.testZero, hout, MicroState.goTo, MicroState.read]
    rfl
  · simp [runMicroOps, MicroState.testZero, hmore, heq, MicroState.goTo, MicroState.read, State.setPc]
    rfl
  · simp [runMicroOps, MicroState.testZero, hmore, hne, MicroState.read]

/-! ## The lists of the string instructions -/

section
variable (m : MicroState)

theorem runMicroOps_ld_tmp1 (r : MicroOperand) (rest : List MicroOp) :
    runMicroOps (.ld .tmp1 (.reg r) :: rest) m = unlessMicroRefused (wordRefusal m.machine.cfg (m.read r))
      (runMicroOps rest { m with tmp1 := m.machine.loadWord (m.read r) }) := rfl

theorem runMicroOps_ld_tmp2 (r : MicroOperand) (rest : List MicroOp) :
    runMicroOps (.ld .tmp2 (.reg r) :: rest) m = unlessMicroRefused (wordRefusal m.machine.cfg (m.read r))
      (runMicroOps rest { m with tmp2 := m.machine.loadWord (m.read r) }) := rfl

theorem runMicroOps_st (d r : MicroOperand) (rest : List MicroOp) :
    runMicroOps (.st d (.reg r) :: rest) m = unlessMicroRefused (wordRefusal m.machine.cfg (m.read r))
      (runMicroOps rest { m with machine := m.machine.storeWord (m.read r) (m.read d) }) := rfl

/-- The two address lines going up: the second reads y after x has been written. -/
theorem runMicroOps_add_x_y (k : Word) (rest : List MicroOp) :
    runMicroOps (.add .x .x k :: .add .y .y k :: rest) m =
      runMicroOps rest (MicroState.testZero
        { m with
          machine := (m.machine.writeReg regX (m.machine.readReg regX + k)).writeReg regY (m.machine.readReg regY + k) }
        (m.machine.readReg regY + k)) := by
  rw [← m.machine.readReg_writeReg_other regX regY (m.machine.readReg regX + k) (by decide)]
  rfl

/-- The two address lines going down. -/
theorem runMicroOps_sub_x_y (k : Word) (rest : List MicroOp) :
    runMicroOps (.sub .x .x k :: .sub .y .y k :: rest) m =
      runMicroOps rest (MicroState.testZero
        { m with
          machine := (m.machine.writeReg regX (m.machine.readReg regX + -k)).writeReg regY (m.machine.readReg regY + -k) }
        (m.machine.readReg regY + -k)) := by
  rw [← BitVec.sub_eq_add_neg, ← BitVec.sub_eq_add_neg,
    ← m.machine.readReg_writeReg_other regX regY (m.machine.readReg regX - k) (by decide)]
  rfl

theorem runMicroOps_mvnList : runMicroOps mvnList m = some (exec .mvn m.machine) := by
  rw [mvnList, runMicroOps_ld_tmp1, runMicroOps_st, runMicroOps_add_x_y, runMicroOps_countAndRepeat,
    unlessMicroRefused_some, unlessMicroRefused_some]
  rfl

theorem runMicroOps_mvpList : runMicroOps mvpList m = some (exec .mvp m.machine) := by
  rw [mvpList, runMicroOps_ld_tmp1, runMicroOps_st, runMicroOps_sub_x_y, runMicroOps_countAndRepeat,
    unlessMicroRefused_some, unlessMicroRefused_some]
  rfl

theorem runMicroOps_stsList : runMicroOps stsList m = some (exec .sts m.machine) := by
  have hstep : ∀ m : MicroState, runMicroOps [.add .y .y 4#52, .sub .acc .acc 1#52, .bne .pc] m =
      some (.next (m.machine.writeReg regY (m.machine.readReg regY + 4#52)).countDown.repeatWhileCount) := fun m =>
    runMicroOps_countAndRepeat _
  rw [stsList, runMicroOps_st, hstep, unlessMicroRefused_some]
  rfl

theorem runMicroOps_cmpsList : runMicroOps cmpsList m = some (exec .cmps m.machine) := by
  rw [cmpsList, runMicroOps_ld_tmp1, runMicroOps_ld_tmp2, runMicroOps_add_x_y, runMicroOps_countAndCompare,
    unlessMicroRefused_some, unlessMicroRefused_some]
  rfl

end

/-- Settles O50: the dispatch finds the list, and the list is the instruction line by line. -/
theorem stringListsAreTheInstructions : Obligations.StringListsAreTheInstructions := by
  unfold Obligations.StringListsAreTheInstructions
  refine ⟨fun swap ins i h => ?_, fun swap ins tmp1 tmp2 i s h hi => ?_⟩
  · have only : ∀ j, decodeWord swap ins = .ok j ↔ i = j := fun j => by rw [h, Except.ok.injEq]
    rw [microDispatch_isSome_iff, ← decodeWord_eq_mvn_iff swap, ← decodeWord_eq_mvp_iff swap,
      ← decodeWord_eq_sts_iff swap, ← decodeWord_eq_cmps_iff swap, ← decodeWord_eq_brk_iff swap]
    simp only [only, List.mem_cons, List.not_mem_nil, or_false]
    exact or_comm
  · have dispatched := fun ops => (microDispatch_eq_some (ins := ins) (ops := ops)).2
    simp only [List.mem_cons, List.not_mem_nil, or_false] at hi
    rcases hi with rfl | rfl | rfl | rfl
    · rw [runMicro_of_dispatch (dispatched mvnList (by simp [(decodeWord_eq_mvn_iff swap ins).1 h]))]
      exact runMicroOps_mvnList _
    · rw [runMicro_of_dispatch (dispatched mvpList (by simp [(decodeWord_eq_mvp_iff swap ins).1 h]))]
      exact runMicroOps_mvpList _
    · rw [runMicro_of_dispatch (dispatched stsList (by simp [(decodeWord_eq_sts_iff swap ins).1 h]))]
      exact runMicroOps_stsList _
    · rw [runMicro_of_dispatch (dispatched cmpsList (by simp [(decodeWord_eq_cmps_iff swap ins).1 h]))]
      exact runMicroOps_cmpsList _

/-! ## The BRK list -/

/-- An outcome with the flag b of its next state set to a value. -/
def withFlagB (b : Bool) : Result → Result
  | .next t => .next { t with sr := { t.sr with b := b } }
  | .fault f => .fault f
  | .refused r => .refused r

theorem withFlagB_unlessRefused (b : Bool) (refusal : Option Refusal) (rest : Result) :
    withFlagB b (unlessRefused refusal rest) = unlessRefused refusal (withFlagB b rest) := by
  cases refusal <;> rfl

/-- The two lines of a push, of data that the stack pointer has no part in (`20_memory.md` R60). -/
theorem runMicroOps_push (m : MicroState) {d : MicroOperand} {v : Word}
    (hd : ∀ a, MicroState.read { m with machine := m.machine.writeReg regSp a } d = v) (rest : List MicroOp) :
    runMicroOps (.sub .sp .sp 4#52 :: .st d (.reg .sp) :: rest) m =
      unlessMicroRefused (wordRefusal m.machine.cfg (m.machine.sp - 4#52))
        (runMicroOps rest (MicroState.testZero { m with machine := m.machine.push v } (m.machine.sp - 4#52))) := by
  have hsp := m.machine.readReg_writeReg_same regSp (m.machine.sp - 4#52) (by decide)
  have hlines : runMicroOps (.sub .sp .sp 4#52 :: .st d (.reg .sp) :: rest) m =
      unlessMicroRefused
        (wordRefusal (m.machine.writeReg regSp (m.machine.sp - 4#52)).cfg
          ((m.machine.writeReg regSp (m.machine.sp - 4#52)).readReg regSp))
        (runMicroOps rest (MicroState.testZero
          { m with
            machine := (m.machine.writeReg regSp (m.machine.sp - 4#52)).storeWord
              ((m.machine.writeReg regSp (m.machine.sp - 4#52)).readReg regSp)
              (MicroState.read { m with machine := m.machine.writeReg regSp (m.machine.sp - 4#52) } d) }
          (m.machine.sp - 4#52))) := rfl
  rw [hlines, hsp, hd, State.writeReg_cfg]
  rfl

/-- The last three lines of the BRK list: the handler at the literal vector. -/
theorem runMicroOps_brkHandler (m : MicroState) (a : Word) :
    runMicroOps [.sepI, .ld .tmp1 (.literal a), .jmp .tmp1] m =
      unlessMicroRefused (wordRefusal m.machine.cfg a)
        (some (.next ((m.machine.setSR { m.machine.sr with i := true }).setPc (m.machine.loadWord a)))) := rfl

/-- The handler of BRK without its write of b. -/
theorem withFlagB_enterHandler {s : State} {b : Bool} (hb : s.sr.b = b) (hrun : s.run = .running) :
    withFlagB b (.next (s.enterHandler .brk)) =
      .next ((s.setSR { s.sr with i := true }).setPc (s.loadWord s.cfg.vecBrk)) := by
  subst hb
  rw [withFlagB, State.enterHandler, ← hrun]
  rfl

theorem runMicroOps_brkList (m : MicroState) (const : BitVec 4) (hvector : m.machine.cfg.vecBrk = 0xFFFFFFFFFFFC#52)
    (hrun : m.machine.run = .running) :
    runMicroOps brkList m = some (withFlagB m.machine.sr.b (exec (.brk const) m.machine)) := by
  have hexec : exec (.brk const) m.machine = takeTrap .brk (m.machine.pc + 1#52) m.machine := rfl
  rw [hexec, takeTrap, if_pos (trapPushes_of_ne_rst _ (by decide)), withFlagB_unlessRefused, withFlagB_unlessRefused,
    withFlagB_unlessRefused, State.startRecord_of_ne _ (by decide), withFlagB_enterHandler (by simp) (by simpa using hrun)]
  have himage : ∀ a, MicroState.read
      { m with machine := (m.machine.push (m.machine.pc + 1#52)).writeReg regSp a } .sr =
        packSR m.machine.cfg.srPos m.machine.sr := fun a => by simp [MicroState.read]
  rw [brkList, runMicroOps_push (v := m.machine.pc + 1#52) m fun a => by simp [MicroState.read],
    runMicroOps_push _ himage, runMicroOps_brkHandler, unlessMicroRefused_some, unlessMicroRefused_some,
    unlessMicroRefused_some]
  simp only [MicroState.testZero, State.push_cfg, State.push_sr, State.sp_push, sub_four_four, State.pushTrapFrame,
    trapVector, hvector]

/-- Settles O51: the list is the trap entry line by line, but for b. -/
theorem brkListIsBrkButForB : Obligations.BrkListIsBrkButForB := by
  unfold Obligations.BrkListIsBrkButForB
  intro swap ins tmp1 tmp2 const s h hvector hrun
  have hindex := (decodeWord_eq_brk_iff swap ins).1 ⟨const, h⟩
  rw [runMicro_of_dispatch (microDispatch_eq_some.2 (.inl ⟨hindex, rfl⟩))]
  refine (runMicroOps_brkList _ const hvector hrun).trans (congrArg some ?_)
  cases exec (.brk const) s <;> rfl

end Sys2Proof.Machine
end
